-- ==== Sys2Proof/Word.lean ====
section
/-! DEFINITION. The word types of the GLN-620's frame link: one data octet, and the two wider widths in which the
manual counts modulo a power of two or masks bits. -/

namespace Sys2Proof

/-- One data octet of the frame link (R1, R2). -/
abbrev Octet := BitVec 8

/-- A 16-bit quantity the manual treats as bits: check words, tags, masks, wrapping frame numbers. -/
abbrev Half := BitVec 16

/-- A 32-bit quantity that wraps modulo 2^32: tachometer counts, timestamps, sample and row indices. -/
abbrev Quad := BitVec 32

end Sys2Proof
end

