-- ==== Sys2Proof/Config.lean ====
section
/-! DEFINITION. The fixed numbers of the part ("Capacities and fixed numbers" of 00_scope.md and the rules named
beside each). No rule of this manual leaves a value undefined, so this file declares no free value. -/

namespace Sys2Proof.Config

/-- R16: entries of the sensor intake queue. -/
abbrev intakeCapacity : Nat := 8
/-- R18: entries of the command queue. -/
abbrev commandCapacity : Nat := 4
/-- R184: entries of the alert queue. -/
abbrev alertCapacity : Nat := 4
/-- R184: entries of the forward queue. -/
abbrev forwardCapacity : Nat := 4
/-- R184: entries of the response queue. -/
abbrev responseCapacity : Nat := 4
/-- R184: entries of the location queue. -/
abbrev locationCapacity : Nat := 8
/-- R184: entries of the segment queue. -/
abbrev segmentCapacity : Nat := 4
/-- R90: entries of the mark table. -/
abbrev markCapacity : Nat := 256
/-- R98: entries of the section table. -/
abbrev sectionCapacity : Nat := 512
/-- R2: largest accepted payload, in octets. -/
abbrev payloadMax : Nat := 1024
/-- R15: payload of a SENSOR frame, in octets. -/
abbrev sensorPayload : Nat := 38
/-- R50: readings collected for each channel of a ZERO. -/
abbrev zeroReadings : Nat := 64
/-- R49: the ZERO timeout, in ms. -/
abbrev zeroTimeoutMs : Nat := 2000
/-- R60: a frame distance above this many µm is a tachometer jump. -/
abbrev jumpLimitUm : Nat := 100000000
/-- R65: the rollback limit, in µm. -/
abbrev rollbackLimitUm : Nat := 200000000
/-- R64: the largest odometer value, in µm. -/
abbrev odometerMax : Nat := 1099511627775
/-- R71: crossings interpolated per sensor frame, at most. -/
abbrev crossingsMax : Nat := 4
/-- R93: mark holdoff distance, in mm. -/
abbrev holdoffMm : Int := 10000
/-- R100: retire distance of a section, in mm. -/
abbrev retireMm : Int := 2000000
/-- R119 and the table of number forms: the range of parameter and measure values, in counts. -/
abbrev valueMax : Int := 1000000
/-- The smallest signed 32-bit value, of positions and offsets (R84). -/
abbrev positionMin : Int := -2147483648
/-- The largest signed 32-bit value, of positions and offsets (R84). -/
abbrev positionMax : Int := 2147483647
/-- R22: the value at which a 16-bit count stops. -/
abbrev countMax : Nat := 65535
/-- The value at which a lost count carried in records stops (R160, R188). -/
abbrev lostMax : Nat := 255
/-- R178: the value at which a 32-bit count stops. -/
abbrev wideCountMax : Nat := 4294967295
/-- R178: the largest value of Σx. -/
abbrev sumMax : Int := 9223372036854775807
/-- R178: the smallest value of Σx. -/
abbrev sumMin : Int := -9223372036854775808
/-- R178: the largest value of Σx². -/
abbrev sumSqMax : Nat := 18446744073709551615
/-- R38: the vendor code (Sarvesk). -/
abbrev vendorCode : Nat := 83
/-- R38: the part number. -/
abbrev partNumber : Nat := 620
/-- R38: the revision described by this edition. -/
abbrev revision : Nat := 1

end Sys2Proof.Config
end

