-- ==== Sys2Proof/Syntax.lean ====
section
/-! DEFINITION. The commands of the block: one constructor per row of spec/opcode_table.json, in the table's order.
The rows are of three kinds: what arrives at the pins (the ten first), what CMU does with the head entry of its command
queue (COMMAND_DISCARDED to RESET_STATS; their arguments stand in that entry's payload, R18), and the events the blocks
take on their own (FRAME_TAKE to TRANSMISSION_END). Assumption log 1 and 5. -/

namespace Sys2Proof

/-- A command of the block: a row of spec/opcode_table.json. -/
inductive Instr where
  /-- DATA_OCTET (R7: a data octet arrives on the inbound data lane). -/
  | dataOctet (octet : Octet)
  /-- IDLE (R6: the control symbol IDLE arrives on the inbound data lane). -/
  | idle
  /-- START (R6: the control symbol START arrives on the inbound data lane). -/
  | start
  /-- END (R10: the control symbol END arrives on the inbound data lane). -/
  | endFrame
  /-- ABORT (R11: the control symbol ABORT arrives on the inbound data lane). -/
  | abort
  /-- LOSS_OF_LOCK (R12: line-code lock is lost). -/
  | lossOfLock
  /-- LOCK_ACQUIRED (R1: line-code lock is acquired). -/
  | lockAcquired
  /-- POWER_ON_RESET (R37: power-on reset; the operand is the value of the six strap inputs at that moment). -/
  | powerOnReset (straps : BitVec 6)
  /-- HOLD (R185: HOLD arrives on the outbound reverse lane). -/
  | hold
  /-- GO (R185: GO arrives on the outbound reverse lane). -/
  | go
  /-- COMMAND_DISCARDED (R26: CMU takes a command entry it discards by case 1 or case 2). -/
  | commandDiscarded
  /-- UNKNOWN_COMMAND (R26: CMU takes a command entry whose code names no command). -/
  | unknownCommand
  /-- IDENTIFY (R38: CMU takes the command IDENTIFY from the head of its queue). -/
  | identify
  /-- READ_STATUS (R39: CMU takes the command READ STATUS from the head of its queue). -/
  | readStatus
  /-- RESET_WARM (R36: CMU takes the command RESET WARM from the head of its queue). -/
  | resetWarm
  /-- RESET_COLD (R36: CMU takes the command RESET COLD from the head of its queue). -/
  | resetCold
  /-- START_COMMAND (R28: CMU takes the command START from the head of its queue). -/
  | startCommand
  /-- STOP (R29: CMU takes the command STOP from the head of its queue). -/
  | stop
  /-- SUSPEND (R30: CMU takes the command SUSPEND from the head of its queue). -/
  | suspend
  /-- RESUME (R32: CMU takes the command RESUME from the head of its queue). -/
  | resume
  /-- SET_POSITION (R89: CMU takes the command SET POSITION from the head of its queue). -/
  | setPosition
  /-- SET_CONFIG (R33: CMU takes the command SET CONFIG from the head of its queue). -/
  | setConfig
  /-- READ_CONFIG (R35: CMU takes the command READ CONFIG from the head of its queue). -/
  | readConfig
  /-- SET_STREAM (R35: CMU takes the command SET STREAM from the head of its queue). -/
  | setStream
  /-- WRITE_CHANNEL (R42: CMU takes the command WRITE CHANNEL from the head of its queue). -/
  | writeChannel
  /-- READ_CHANNEL (R43: CMU takes the command READ CHANNEL from the head of its queue). -/
  | readChannel
  /-- ZERO (R49: CMU takes the command ZERO from the head of its queue). -/
  | zero
  /-- WRITE_PARAMETER (R106: CMU takes the command WRITE PARAMETER from the head of its queue). -/
  | writeParameter
  /-- READ_PARAMETER (R107: CMU takes the command READ PARAMETER from the head of its queue). -/
  | readParameter
  /-- WRITE_MEASURE (R117: CMU takes the command WRITE MEASURE from the head of its queue). -/
  | writeMeasure
  /-- READ_MEASURE (R118: CMU takes the command READ MEASURE from the head of its queue). -/
  | readMeasure
  /-- REBASE (R127: CMU takes the command REBASE from the head of its queue). -/
  | rebase
  /-- WRITE_LIMITS (R130: CMU takes the command WRITE LIMITS from the head of its queue). -/
  | writeLimits
  /-- READ_LIMITS (R131: CMU takes the command READ LIMITS from the head of its queue). -/
  | readLimits
  /-- WRITE_MARK (R91: CMU takes the command WRITE MARK from the head of its queue). -/
  | writeMark
  /-- DELETE_MARK (R92: CMU takes the command DELETE MARK from the head of its queue). -/
  | deleteMark
  /-- CLEAR_MARKS (R92: CMU takes the command CLEAR MARKS from the head of its queue). -/
  | clearMarks
  /-- READ_MARK (R92: CMU takes the command READ MARK from the head of its queue). -/
  | readMark
  /-- APPEND_SECTION (R99: CMU takes the command APPEND SECTION from the head of its queue). -/
  | appendSection
  /-- CLEAR_SECTIONS (R102: CMU takes the command CLEAR SECTIONS from the head of its queue). -/
  | clearSections
  /-- READ_SECTION (R102: CMU takes the command READ SECTION from the head of its queue). -/
  | readSection
  /-- WRITE_SLOT (R176: CMU takes the command WRITE SLOT from the head of its queue). -/
  | writeSlot
  /-- READ_SLOT (R176: CMU takes the command READ SLOT from the head of its queue). -/
  | readSlot
  /-- FREEZE (R180: CMU takes the command FREEZE from the head of its queue). -/
  | freeze
  /-- THAW (R180: CMU takes the command THAW from the head of its queue). -/
  | thaw
  /-- RESET_STATS (R181: CMU takes the command RESET STATS from the head of its queue). -/
  | resetStats
  /-- FRAME_TAKE (R44: CAL takes the head entry of the sensor intake queue). -/
  | frameTake
  /-- ZERO_TIMEOUT (R52: the ZERO timeout expires). -/
  | zeroTimeout
  /-- ZERO_RESPONSE_PLACED (R54: CAL places the waiting ZERO response). -/
  | zeroResponsePlaced
  /-- FRAME_EVENT (R57: ODO takes CAL's held record). -/
  | frameEvent
  /-- SILENCE_EXPIRY (R79: the silence timer expires). -/
  | silenceExpiry
  /-- REVERSE_LIMIT_REQUEST (R31: CMU takes ODO's reverse-limit request). -/
  | reverseLimitRequest
  /-- MARK_HANDOFF (R94: LOC takes a mark hand-off). -/
  | markHandoff
  /-- LOC_SAMPLE (R86: LOC takes a spatial sample). -/
  | locSample
  /-- LOC_GAP_NOTICE (R85: LOC takes a gap notice). -/
  | locGapNotice
  /-- SAMPLE_EVENT (R111: MSE takes a sample). -/
  | sampleEvent
  /-- GAP_EVENT (R112: MSE takes a gap notice). -/
  | gapEvent
  /-- ROW_EVENT (R135: EXD takes a row, and EXT its notices). -/
  | rowEvent
  /-- EXD_GAP_NOTICE (R148: EXD takes a gap notice, and EXT with it). -/
  | exdGapNotice
  /-- STU_ROW_EVENT (R172: STU takes a row). -/
  | stuRowEvent
  /-- STU_GAP_NOTICE (R175: STU takes a gap notice). -/
  | stuGapNotice
  /-- LTX_ROW (R193: LTX takes a row). -/
  | ltxRow
  /-- LTX_GAP_NOTICE (R194: LTX takes a gap notice). -/
  | ltxGapNotice
  /-- ARBITER_CHOICE (R186: the arbiter chooses a frame). -/
  | arbiterChoice
  /-- TRANSMISSION_END (R187: the transmission of an own or forwarded frame ends). -/
  | transmissionEnd
  deriving DecidableEq, Repr

end Sys2Proof
end

