-- ==== Sys2Proof/WellFormed.lean ====
section
/-! DEFINITION. The well-formedness of a command. The two operands of the table's rows (the octet of DATA_OCTET and the
strap value of POWER_ON_RESET) are bit vectors of exactly the width the manual gives (R1: 0 to 255, and 0 to 63), so an
ill-formed command cannot be built and no check is left to make. -/

namespace Sys2Proof

/-- Every command of the block is well formed: its operands carry their width in their type. -/
def Instr.wellFormed (_ : Instr) : Bool := true

end Sys2Proof
end

