-- ==== Sys2Proof/Decode.lean ====
section
/-! DEFINITION. The rows of spec/opcode_table.json that give bits: there is none, so no word spells a command. The octet
layouts of the frames the part takes (R196) are read in Machine/Operands.lean. -/

namespace Sys2Proof

/-- The command that a word spells by the table's bits: no row of the table gives bits, so none (assumption log 3). -/
def decodeTableWord (_nbits _w : Nat) : Option Instr := none

end Sys2Proof
end

