-- ==== Sys2Proof/Machine/State.lean ====
section
/-! DEFINITION. The state of the GLN-620, block by block, as plain data, and its value after reset. Each structure cites
the rule that lists it. Numbers the manual counts or adds are Nat or Int (their ranges are invariants stated in
Certificates/Slice0/Obligations.lean); what wraps modulo a power of two or is masked is a bit vector. -/

namespace Sys2Proof.Machine

/-- No command of this block faults: the manual gives every command an effect in every state (R1, R26; a command whose
conditions do not hold waits, assumption log 1). Closed and empty; nothing raises it. -/
inductive Fault where
  deriving DecidableEq, Repr

/-- Why a command is refused by the model. -/
inductive Refusal where
  /-- Raised only by an arm of exec whose command has no meaning yet; safe (the run stops). -/
  | notModelled (mnemonic : String)
  deriving DecidableEq, Repr

/-! ### Values shared by the blocks -/

/-- A value with its valid and saturated flags: a calibrated channel (R45), a parameter (R109) or a measure (R119). -/
structure Quantity where
  value : Int
  valid : Bool
  saturated : Bool
  deriving DecidableEq, Repr

/-- An invalid value carries 0 and neither flag (R45, R109, R119). -/
def Quantity.invalid : Quantity := { value := 0, valid := false, saturated := false }

/-- A row of the stream: its index and located position (R115). -/
structure RowRef where
  index : Quad
  position : Int
  deriving DecidableEq, Repr

/-- R184, R185: the indication on a reverse lane. -/
inductive FlowIndication where
  | hold
  | go
  deriving DecidableEq, Repr

/-- The three kinds of reset are power-on and the two commanded ones (R36). -/
inductive ResetKind where
  | warm
  | cold
  deriving DecidableEq, Repr

/-- The status codes of R196. -/
inductive Status where
  | ok
  | state
  | badArg
  | badTable
  | full
  | order
  | notFound
  | unknown
  | length
  | busy
  | aborted
  | timeout
  deriving DecidableEq, Repr

/-! ### LRX, the Frame Link Receiver (chapter 1) -/

/-- R8: what LRX does with a frame. -/
inductive Disposition where
  | consume
  | consumeAndForward
  | remove
  | forward
  deriving DecidableEq, Repr

/-- R2, R8: the header fields, taken once the count has reached 5, with the disposition decided there. -/
structure Header where
  destination : Octet
  source : Octet
  kind : Octet
  length : Nat
  disposition : Disposition
  deriving DecidableEq, Repr

/-- R4: the frame being assembled. `octets` holds every data octet since its START, oldest first, so the count of R4 is
its length; `check` is the running check word (R3); `copyVoid` is set by a commanded reset (R14). -/
structure Assembly where
  octets : List Octet
  header : Option Header
  check : Half
  copyVoid : Bool
  deriving DecidableEq, Repr

/-- R4: the receiver state; the frame being assembled is present only in RECEIVING. -/
inductive Receiver where
  | hunt
  | ready
  | receiving (frame : Assembly)
  deriving DecidableEq, Repr

/-- The link counters (R20, R21), each 0 to 65,535 and saturating (R22). -/
structure LinkCounters where
  goodFrames : Nat
  checkErrors : Nat
  lengthErrors : Nat
  framingErrors : Nat
  abortsReceived : Nat
  lockLosses : Nat
  returned : Nat
  sensorOverruns : Nat
  commandsDropped : Nat
  unknownKind : Nat
  deriving DecidableEq, Repr

/-- R22: every link counter 0. -/
def LinkCounters.zero : LinkCounters :=
  { goodFrames := 0, checkErrors := 0, lengthErrors := 0, framingErrors := 0, abortsReceived := 0, lockLosses := 0,
    returned := 0, sensorOverruns := 0, commandsDropped := 0, unknownKind := 0 }

/-- R16: an entry of the sensor intake queue. -/
structure SensorEntry where
  tach : Quad
  timestamp : Quad
  sequence : Half
  markId : Option Nat
  raw : Vector Int 12
  sensorValid : BitVec 12
  overrun : Bool
  deriving DecidableEq, Repr

/-- R18: an entry of the command queue. -/
structure CommandEntry where
  source : Octet
  broadcast : Bool
  payload : List Octet
  deriving DecidableEq, Repr

/-- The state of LRX (R4, R16, R18, R20, R21). -/
structure Lrx where
  receiver : Receiver
  linkUp : Bool
  intake : List SensorEntry
  commands : List CommandEntry
  counters : LinkCounters
  deriving DecidableEq, Repr

/-! ### CMU, the Command Unit (chapter 2) -/

/-- R23: the suspend cause. -/
inductive SuspendCause where
  | command
  | reverse
  deriving DecidableEq, Repr

/-- R23: the run state; the suspend cause is present only in SUSPENDED. -/
inductive RunState where
  | stopped
  | measuring
  | suspended (cause : SuspendCause)
  deriving DecidableEq, Repr

/-- R33: the configuration record. -/
structure ConfigRecord where
  spacingMm : Nat
  pulseUm : Nat
  speedBeta : Nat
  minSpeed : Nat
  silenceMs : Nat
  alignDelay : Nat
  defaultBand : Fin 5
  pointLen : Nat
  cyclicCount : Nat
  pitchMinMm : Nat
  pitchMaxMm : Nat
  pitchTolMm : Nat
  segmentM : Nat
  reportDest : Octet
  deriving DecidableEq, Repr

/-- R33: the default configuration record. -/
def ConfigRecord.default : ConfigRecord :=
  { spacingMm := 250, pulseUm := 2500, speedBeta := 3, minSpeed := 150, silenceMs := 50, alignDelay := 32,
    defaultBand := 0, pointLen := 8, cyclicCount := 0, pitchMinMm := 10000, pitchMaxMm := 30000, pitchTolMm := 500,
    segmentM := 200, reportDest := 0 }

/-- The state of CMU (R23), with the stream settings of R35. -/
structure Cmu where
  runState : RunState
  runNumber : BitVec 8
  config : ConfigRecord
  streamMask : Half
  blockSize : Nat
  resetPending : Option ResetKind
  commandsDiscarded : Nat
  deriving DecidableEq, Repr

/-- R23, R33, R35: CMU after power-on reset and RESET COLD. -/
def Cmu.cold : Cmu :=
  { runState := .stopped, runNumber := 0, config := .default, streamMask := 0, blockSize := 8, resetPending := none,
    commandsDiscarded := 0 }

/-! ### CAL, the Channel Calibrator (chapter 3) -/

/-- R42: a channel entry. -/
structure ChannelEntry where
  enabled : Bool
  gain : Int
  offset : Int
  inertial : Bool
  deriving DecidableEq, Repr

/-- R42: a channel entry at its defaults. -/
def ChannelEntry.default : ChannelEntry := { enabled := true, gain := 16384, offset := 0, inertial := false }

/-- R41: a channel's last reading. -/
structure Reading where
  raw : Int
  quantity : Quantity
  deriving DecidableEq, Repr

/-- R47: the calibrated frame record. -/
structure CalFrame where
  tach : Quad
  timestamp : Quad
  sequence : Half
  markId : Option Nat
  overrun : Bool
  channels : Vector Quantity 12
  deriving DecidableEq, Repr

/-- R49, R50: the ZERO record in COLLECTING. `timeoutMs` is the time the timeout was started with. -/
structure ZeroCollection where
  mask : BitVec 12
  tag : Half
  source : Octet
  counts : Vector Nat 12
  sums : Vector Int 12
  timeoutMs : Nat
  deriving DecidableEq, Repr

/-- R51 to R54: the ZERO record in REPORTING. -/
structure ZeroReport where
  mask : BitVec 12
  tag : Half
  source : Octet
  status : Status
  completed : BitVec 12
  counts : Vector Nat 12
  offsets : Vector Int 12
  deriving DecidableEq, Repr

/-- R41: the ZERO record. -/
inductive ZeroRecord where
  | idle
  | collecting (z : ZeroCollection)
  | reporting (r : ZeroReport)
  deriving DecidableEq, Repr

/-- The state of CAL (R41). -/
structure Cal where
  channels : Vector ChannelEntry 12
  lastReading : Vector (Option Reading) 12
  held : Option CalFrame
  zero : ZeroRecord
  deriving DecidableEq, Repr

/-- R41: CAL after power-on reset and RESET COLD. -/
def Cal.cold : Cal :=
  { channels := Vector.replicate 12 .default, lastReading := Vector.replicate 12 none, held := none, zero := .idle }

/-! ### ODO, the Odometry Unit (chapter 4) -/

/-- The state of ODO (R56). `silenceTimer` is absent when stopped, and else the time it was restarted with, in ms. -/
structure Odo where
  d : Nat
  r : Nat
  base : Option CalFrame
  n : Nat
  s : Quad
  vf : Nat
  lowSpeed : Bool
  gapPending : Bool
  silenceTimer : Option Nat
  silenceFlag : Bool
  tachFault : Bool
  deriving DecidableEq, Repr

/-- R56: ODO after every reset, with N at the grid step of the spacing the reset leaves in force. -/
def Odo.afterReset (spacingMm : Nat) : Odo :=
  { d := 0, r := 0, base := none, n := 1000 * spacingMm, s := 0, vf := 0, lowSpeed := true, gapPending := false,
    silenceTimer := none, silenceFlag := false, tachFault := false }

/-- R75, R76: a spatial sample as ODO hands it to LOC; `point` is N_j in µm. -/
structure Sample where
  run : BitVec 8
  index : Quad
  point : Nat
  lowSpeed : Bool
  seqGap : Bool
  speed : Nat
  channels : Vector Quantity 12
  deriving DecidableEq, Repr

/-- R68, R73, R76: what ODO hands to LOC. A mark hand-off carries the mark id and floor(D / 1,000); a gap notice carries
its run number. -/
inductive OdoItem where
  | mark (id : Nat) (measured : Int)
  | sample (x : Sample)
  | gap (run : BitVec 8)
  deriving DecidableEq, Repr

/-! ### LOC, the Location Unit (chapter 5) -/

/-- R90: a mark entry. -/
structure MarkEntry where
  position : Int
  window : Nat
  deriving DecidableEq, Repr

/-- R84: the holdoff record. -/
structure Holdoff where
  id : Nat
  measured : Int
  deriving DecidableEq, Repr

/-- R98: an entry of the section table (`finish` is the rule's end). -/
structure SectionEntry where
  start : Int
  finish : Int
  band : Fin 5
  suppress : Half
  cant : Option Int
  deriving DecidableEq, Repr

/-- The state of LOC (R84). The mark table is kept in ascending order of id (assumption log 20). -/
structure Loc where
  located : Bool
  offset : Int
  epoch : BitVec 8
  holdoff : Option Holdoff
  marks : List (Nat × MarkEntry)
  sections : List SectionEntry
  cursor : Option Nat
  deriving DecidableEq, Repr

/-- R84: LOC after power-on reset and RESET COLD. -/
def Loc.cold : Loc :=
  { located := false, offset := 0, epoch := 0, holdoff := none, marks := [], sections := [], cursor := none }

/-- R94: why a mark is rejected. -/
inductive RejectReason where
  | window
  | range
  deriving DecidableEq, Repr

/-- R97: the kind of a location record, with the fields only that kind carries. -/
inductive LocationKind where
  | markApplied (id : Nat) (entry : MarkEntry) (delta : Int)
  | markRejected (id : Nat) (entry : MarkEntry) (delta : Int) (reason : RejectReason)
  | markUnknown (id : Nat)
  | positionSet (delta : Int)
  | reverseSuspend
  | locationLost (wasLocated : Bool)
  deriving DecidableEq, Repr

/-- R97: a location record. -/
structure LocationRecord where
  kind : LocationKind
  measured : Int
  offset : Int
  epoch : BitVec 8
  located : Bool
  lost : Nat
  deriving DecidableEq, Repr

/-- R87: a sample as LOC hands it to MSE. -/
structure LocatedSample where
  sample : Sample
  position : Int
  unlocated : Bool
  band : Fin 5
  suppress : Half
  cant : Option Int
  epoch : BitVec 8
  deriving DecidableEq, Repr

/-- R85: what LOC hands to MSE. -/
inductive MseItem where
  | sample (x : LocatedSample)
  | gap (run : BitVec 8)
  deriving DecidableEq, Repr

/-! ### MSE, the Measure Engine (chapter 6) -/

/-- R106: a term of a parameter entry. -/
structure Term where
  channel : Fin 12
  weight : Int
  deriving DecidableEq, Repr

/-- R106: a parameter entry; an entry with no terms is disabled. -/
structure ParameterEntry where
  terms : List Term
  k : Int
  deriving DecidableEq, Repr

/-- R106: a disabled parameter entry. -/
def ParameterEntry.default : ParameterEntry := { terms := [], k := 0 }

/-- R116: a measure entry: its kind, with the fields its kind uses. -/
inductive MeasureEntry where
  | disabled
  | direct (p : Fin 10)
  | chord (p : Fin 10) (l : Nat)
  | twist (p : Fin 10) (b : Nat)
  | deviation (p : Fin 10) (beta haltGroup : Nat)
  | cantDeviation (p : Fin 10) (beta haltGroup : Nat)
  deriving DecidableEq, Repr

/-- R110: the contents of a history slot that is present. -/
structure Slot where
  index : Quad
  position : Int
  unlocated : Bool
  lowSpeed : Bool
  seqGap : Bool
  speed : Nat
  band : Fin 5
  suppress : Half
  cant : Option Int
  epoch : BitVec 8
  parameters : Vector Quantity 10
  deriving DecidableEq, Repr

/-- The state of MSE (R104). An absent slot is none; an unseeded baseline, or that of a measure that has none, is none. -/
structure Mse where
  parameters : Vector ParameterEntry 10
  measures : Vector MeasureEntry 16
  history : Vector (Option Slot) 128
  newest : Option Quad
  baselines : Vector (Option Int) 16
  deriving DecidableEq, Repr

/-- R104: MSE after power-on reset and RESET COLD. -/
def Mse.cold : Mse :=
  { parameters := Vector.replicate 10 .default, measures := Vector.replicate 16 .disabled,
    history := Vector.replicate 128 none, newest := none, baselines := Vector.replicate 16 none }

/-- R115: a geometry row. -/
structure Row where
  run : BitVec 8
  index : Quad
  position : Int
  unlocated : Bool
  lowSpeed : Bool
  seqGap : Bool
  speed : Nat
  band : Fin 5
  suppress : Half
  epoch : BitVec 8
  cantTable : Bool
  measures : Vector Quantity 16
  deriving DecidableEq, Repr

/-- R111, R112: what MSE hands to EXD, STU and LTX. -/
inductive RowItem where
  | row (x : Row)
  | gap (run : BitVec 8)
  deriving DecidableEq, Repr

/-! ### EXD, the Exceedance Detector (chapter 7) -/

/-- R129: which sense of a measure is judged. -/
inductive SignMode where
  | both
  | positive
  | negative
  deriving DecidableEq, Repr

/-- R129: a limit set. -/
structure LimitSet where
  enter1 : Nat
  enter2 : Nat
  enter3 : Nat
  h : Nat
  sign : SignMode
  e : Nat
  x : Nat
  maxLength : Nat
  deriving DecidableEq, Repr

/-- R128: the default limit set. -/
def LimitSet.default : LimitSet :=
  { enter1 := 0, enter2 := 0, enter3 := 0, h := 0, sign := .both, e := 1, x := 1, maxLength := 0 }

/-- R133: the detector modes. -/
inductive DetectorMode where
  | disabled
  | quiet
  | active
  | latched
  deriving DecidableEq, Repr

/-- A peak: the largest magnitude, the signed value at it, and its row (R133, R151). -/
structure Peak where
  magnitude : Nat
  signed : Int
  row : RowRef
  deriving DecidableEq, Repr

/-- R133: the run a rise from QUIET is building. -/
structure PendingRun where
  start : RowRef
  band : Fin 5
  epoch : BitVec 8
  peak : Peak
  sat : Bool
  lowSpeed : Bool
  corrected : Bool
  deriving DecidableEq, Repr

/-- R133: a detector record. -/
structure Detector where
  mode : DetectorMode
  level : Nat
  riseCount : Nat
  riseMin : Nat
  pendingRun : Option PendingRun
  fallCount : Nat
  previous : Option RowRef
  lastHold : Option RowRef
  runLength : Nat
  releaseCount : Nat
  deriving DecidableEq, Repr

/-- R133: a detector entering a mode with its counts cleared. -/
def Detector.cleared (mode : DetectorMode) : Detector :=
  { mode := mode, level := 0, riseCount := 0, riseMin := 0, pendingRun := none, fallCount := 0, previous := none,
    lastHold := none, runLength := 0, releaseCount := 0 }

/-- The state of EXD (R128): the limit sets by band and measure, and the detector records. -/
structure Exd where
  limits : Vector (Vector LimitSet 16) 5
  detectors : Vector Detector 16
  deriving DecidableEq, Repr

/-- R128, R149: EXD after power-on reset and RESET COLD, every measure then being DISABLED. -/
def Exd.cold : Exd :=
  { limits := Vector.replicate 5 (Vector.replicate 16 .default), detectors := Vector.replicate 16 (.cleared .disabled) }

/-- R146: why a detector closes an exceedance. -/
inductive CloseCause where
  | fall
  | long
  | suppressed
  | noLimits
  deriving DecidableEq, Repr

/-- R146: a detector notice. An OPEN notice also names the opening row and its epoch, which R155 and R158 use. -/
inductive Notice where
  | opened (measure : Fin 16) (run : PendingRun) (level : Nat) (row : RowRef) (epoch : BitVec 8) (speed : Nat)
  | row (measure : Fin 16) (row : RowRef) (epoch : BitVec 8) (valid : Bool) (magnitude : Nat) (signed : Int)
      (saturated lowSpeed : Bool) (speed level : Nat)
  | closed (measure : Fin 16) (cause : CloseCause) (endRow : RowRef) (level : Nat)
  deriving DecidableEq, Repr

/-! ### EXT, the Exception Tracker (chapter 8) -/

/-- R151: the state of a context. -/
inductive ContextState where
  | free
  | opened
  | posted
  | sending
  deriving DecidableEq, Repr

/-- R159: the class of a closed exception. -/
inductive ExceptionClass where
  | point
  | extended
  | long
  deriving DecidableEq, Repr

/-- R151: the reason of a closed exception. -/
inductive ExceptionReason where
  | none
  | truncated
  | suppressed
  | noLimits
  deriving DecidableEq, Repr

/-- R151: the fields of a context that are present once its exception is closed. -/
structure Closing where
  endRow : RowRef
  length : Nat
  cls : ExceptionClass
  reason : ExceptionReason
  lostBefore : Nat
  deriving DecidableEq, Repr

/-- R151: the exception record a context holds. -/
structure ExceptionRecord where
  measure : Fin 16
  band : Fin 5
  start : RowRef
  startEpoch : BitVec 8
  openSpeed : Nat
  levelOpen : Nat
  levelMax : Nat
  last : RowRef
  peak : Peak
  sat : Bool
  invalidSeen : Bool
  lowSpeed : Bool
  corrected : Bool
  alerted : Bool
  alertLost : Bool
  cyclic : Bool
  pitch : Option Int
  closing : Option Closing
  deriving DecidableEq, Repr

/-- A row reference at index 0 and position 0, used only to fill a record that nothing reads. -/
def RowRef.zero : RowRef := { index := 0, position := 0 }

/-- What a FREE context holds after a reset: nothing that is read or reported (R151; assumption log 12). -/
def ExceptionRecord.blank : ExceptionRecord :=
  { measure := 0, band := 0, start := .zero, startEpoch := 0, openSpeed := 0, levelOpen := 0, levelMax := 0,
    last := .zero, peak := { magnitude := 0, signed := 0, row := .zero }, sat := false, invalidSeen := false,
    lowSpeed := false, corrected := false, alerted := false, alertLost := false, cyclic := false, pitch := none,
    closing := none }

/-- R151: an exception context. -/
structure Context where
  state : ContextState
  record : ExceptionRecord
  deriving DecidableEq, Repr

/-- R154: the record of an untracked exceedance. -/
structure UntrackedRecord where
  band : Fin 5
  start : RowRef
  startEpoch : BitVec 8
  peak : Peak
  alerted : Bool
  deriving DecidableEq, Repr

/-- R154: a measure's tracking entry. -/
inductive Tracking where
  | none
  | tracked (context : Fin 32)
  | untracked (u : UntrackedRecord)
  deriving DecidableEq, Repr

/-- R150: a start of a cyclic start ring. -/
structure RingStart where
  position : Int
  epoch : BitVec 8
  deriving DecidableEq, Repr

/-- The state of EXT (R150). -/
structure Ext where
  contexts : Vector Context 32
  free : List (Fin 32)
  openMap : Vector Tracking 16
  posted : List (Fin 32)
  lost : Nat
  rings : Vector (List RingStart) 16
  openCount : Nat
  openRow : Option Quad
  deriving DecidableEq, Repr

/-- R150, R169: EXT after every reset. -/
def Ext.afterReset : Ext :=
  { contexts := Vector.replicate 32 { state := .free, record := .blank }, free := List.finRange 32,
    openMap := Vector.replicate 16 .none, posted := [], lost := 0, rings := Vector.replicate 16 [], openCount := 0,
    openRow := none }

/-- R158: an alert record; `context` is absent, and UNTRACKED set, when the exception is untracked. -/
structure AlertRecord where
  measure : Fin 16
  context : Option (Fin 32)
  band : Fin 5
  start : RowRef
  startEpoch : BitVec 8
  row : RowRef
  epoch : BitVec 8
  peak : Peak
  speed : Nat
  deriving DecidableEq, Repr

/-! ### STU, the Statistics Unit (chapter 9) -/

/-- R176: the source of a statistic slot. -/
inductive SlotSource where
  | measure (m : Fin 16)
  | openCount
  | speed
  deriving DecidableEq, Repr

/-- R176: the function of a statistic slot. -/
inductive SlotFunction where
  | sigma
  | above
  | starts
  | peak
  | sum
  deriving DecidableEq, Repr

/-- R176: a statistic slot entry. -/
structure SlotEntry where
  enabled : Bool
  source : SlotSource
  function : SlotFunction
  threshold : Nat
  invert : Bool
  excludeLowSpeed : Bool
  deriving DecidableEq, Repr

/-- R170: the default slot entry. -/
def SlotEntry.default : SlotEntry :=
  { enabled := false, source := .measure 0, function := .sigma, threshold := 0, invert := false,
    excludeLowSpeed := false }

/-- R178: the peak of a slot. -/
structure SlotPeak where
  value : Int
  row : RowRef
  deriving DecidableEq, Repr

/-- R178: the accumulators of a slot, with its SAT status. -/
structure Accumulators where
  n : Nat
  sum : Int
  sumSq : Nat
  count : Nat
  peak : Option SlotPeak
  sat : Bool
  deriving DecidableEq, Repr

/-- R170: accumulators cleared. -/
def Accumulators.zero : Accumulators := { n := 0, sum := 0, sumSq := 0, count := 0, peak := none, sat := false }

/-- R173: a segment, in progress or closed. -/
structure Segment where
  number : Int
  epoch : BitVec 8
  first : RowRef
  last : RowRef
  rowCount : Nat
  invalidRows : Nat
  partSegment : Bool
  unlocated : Bool
  frozen : Bool
  corrected : Bool
  truncated : Bool
  deriving DecidableEq, Repr

/-- The state of STU (R170). -/
structure Stu where
  slots : Vector SlotEntry 8
  accumulators : Vector Accumulators 8
  edges : Vector Bool 8
  segment : Option Segment
  openAfterStart : Bool
  frozen : Bool
  deriving DecidableEq, Repr

/-- R170: STU after power-on reset and RESET COLD. -/
def Stu.cold : Stu :=
  { slots := Vector.replicate 8 .default, accumulators := Vector.replicate 8 .zero, edges := Vector.replicate 8 false,
    segment := none, openAfterStart := false, frozen := false }

/-- R182: the status of a slot's result. -/
inductive SlotStatus where
  | ok
  | empty
  | sat
  deriving DecidableEq, Repr

/-- R183: a slot entry of a segment record. -/
structure SlotResult where
  slot : Fin 8
  function : SlotFunction
  source : SlotSource
  status : SlotStatus
  n : Nat
  result : Option Int
  aux : Option Int
  deriving DecidableEq, Repr

/-- R183: a segment record. -/
structure SegmentRecord where
  segment : Segment
  lostBefore : Nat
  entries : List SlotResult
  deriving DecidableEq, Repr

/-! ### LTX, the Frame Link Transmitter (chapter 10) -/

/-- R27: a response: its destination, the echoed code and tag, the status and the result octets (R196). -/
structure Response where
  destination : Octet
  code : Octet
  tag : Half
  status : Status
  results : List Octet
  deriving DecidableEq, Repr

/-- R193: a row block. -/
structure Block where
  mask : Half
  effectiveSize : Nat
  skipped : Nat
  gapBefore : Bool
  rows : List Row
  deriving DecidableEq, Repr

/-- R184, R193: a row-block buffer. -/
inductive Buffer where
  | empty
  | filling (b : Block)
  | pending (b : Block)
  | sending (b : Block)
  deriving DecidableEq, Repr

/-- R187: which own frame the lane is sending, with what its completion needs. -/
inductive OwnFrame where
  | alert
  | response (r : Response)
  | location
  | exception (context : Fin 32)
  | segment
  | rows (buffer : Fin 2)
  deriving DecidableEq, Repr

/-- R184: the lane state. -/
inductive Lane where
  | idle
  | own (f : OwnFrame)
  | forwarded
  | cutThrough
  deriving DecidableEq, Repr

/-- The state of LTX (R184). `closedOrder` names the PENDING buffers, first closed first (R186). -/
structure Ltx where
  lane : Lane
  hold : FlowIndication
  alerts : List AlertRecord
  forward : List (List Octet)
  store : Option (List Octet)
  responses : List Response
  locations : List LocationRecord
  segments : List SegmentRecord
  buffers : Vector Buffer 2
  closedOrder : List (Fin 2)
  locationLost : Nat
  segmentLost : Nat
  skippedRows : Nat
  gapMark : Bool
  forwardsDropped : Nat
  deriving DecidableEq, Repr

/-- R184: LTX after a reset that leaves the given hold state. -/
def Ltx.afterReset (indication : FlowIndication) : Ltx :=
  { lane := .idle, hold := indication, alerts := [], forward := [], store := none, responses := [], locations := [],
    segments := [], buffers := Vector.replicate 2 .empty, closedOrder := [], locationLost := 0, segmentLost := 0,
    skippedRows := 0, gapMark := false, forwardsDropped := 0 }

/-! ### What one block has handed to the next and the next has not yet taken (R36) -/

/-- The hand-overs between blocks: ODO to LOC (R57), LOC to MSE (R85), MSE to EXD, STU and LTX (R115), and ODO's
reverse-limit request to CMU with its run number (R66). -/
structure Links where
  odoToLoc : List OdoItem
  locToMse : Option MseItem
  mseToExd : List RowItem
  mseToStu : List RowItem
  mseToLtx : List RowItem
  reverseRequest : Option (BitVec 8)
  deriving DecidableEq, Repr

/-- R36: nothing handed over. -/
def Links.none : Links :=
  { odoToLoc := [], locToMse := .none, mseToExd := [], mseToStu := [], mseToLtx := [], reverseRequest := .none }

/-- A symbol put on the outbound data lane. -/
inductive LaneSymbol where
  | idle
  | start
  | octet (b : Octet)
  | endFrame
  | abort
  deriving DecidableEq, Repr

/-- The state of the part. `station` is the strap value sampled at power-on reset (R1); `lineLock` is whether the line
decoder holds line-code lock (section 1.1; assumption log 6); `outbound` records the symbols of the frames sent on the
outbound data lane, oldest first (assumption log 8); `pending` is the queue of waiting commands, first in, first out. -/
structure State where
  station : BitVec 6
  lineLock : Bool
  lrx : Lrx
  cmu : Cmu
  cal : Cal
  odo : Odo
  loc : Loc
  mse : Mse
  exd : Exd
  ext : Ext
  stu : Stu
  ltx : Ltx
  links : Links
  outbound : List LaneSymbol
  pending : List Instr
  deriving DecidableEq, Repr

/-- The part right after power-on reset (R37 and the reset column of each block's state rule), with its straps at 0
(assumption log 7). -/
def State.reset : State :=
  { station := 0
    lineLock := true
    lrx := { receiver := .hunt, linkUp := false, intake := [], commands := [], counters := .zero }
    cmu := .cold
    cal := .cold
    odo := .afterReset 250
    loc := .cold
    mse := .cold
    exd := .cold
    ext := .afterReset
    stu := .cold
    ltx := .afterReset .hold
    links := .none
    outbound := []
    pending := [] }

end Sys2Proof.Machine
end

