-- ==== Sys2Proof/Machine/Ops.lean ====
section
/-! DEFINITION. The operations several blocks share: the rounding and saturation of 00_scope.md, the updates of one block
of State, the check word (R3), the discard test of R24, and what LTX does with what is offered to its queues (R188). -/

namespace Sys2Proof.Machine

/-! ### Rounding, clamping, saturation (00_scope.md, "Rounding" and "Saturation") -/

/-- "nearest": `a / b` for `b` above 0, rounded to the nearest integer with halves away from zero. -/
def nearest (a b : Int) : Int :=
  if 0 ≤ a then (2 * a + b) / (2 * b) else -((-(2 * a) + b) / (2 * b))

/-- "trunc": `a / b` truncated toward zero. -/
def trunc (a b : Int) : Int := Int.tdiv a b

/-- "clamp(x, a, b)": `x` limited to the range `a` to `b`. -/
def clamp (x a b : Int) : Int := max a (min x b)

/-- A counter that stops at `limit` counts one event. -/
def countUp (limit n : Nat) : Nat := min (n + 1) limit

/-- "isqrt": one step of the square root by its bits, from bit `k` down, `r` being the root found so far. -/
def isqrtFrom : Nat → Nat → Nat → Nat
  | 0, r, x => if (r + 1) * (r + 1) ≤ x then r + 1 else r
  | k + 1, r, x =>
    if (r + 2 ^ (k + 1)) * (r + 2 ^ (k + 1)) ≤ x then isqrtFrom k (r + 2 ^ (k + 1)) x else isqrtFrom k r x

/-- "isqrt": the floor of the integer square root. -/
def isqrt (x : Nat) : Nat := isqrtFrom (Nat.log2 x) 0 x

/-! ### Updates of one block of the state -/

/-- The state with its `lineLock` replaced. -/
def State.withLineLock (s : State) (x : Bool) : State := { s with lineLock := x }

/-- The state with its `lrx` replaced. -/
def State.withLrx (s : State) (x : Lrx) : State := { s with lrx := x }

/-- The state with its `cmu` replaced. -/
def State.withCmu (s : State) (x : Cmu) : State := { s with cmu := x }

/-- The state with its `cal` replaced. -/
def State.withCal (s : State) (x : Cal) : State := { s with cal := x }

/-- The state with its `odo` replaced. -/
def State.withOdo (s : State) (x : Odo) : State := { s with odo := x }

/-- The state with its `loc` replaced. -/
def State.withLoc (s : State) (x : Loc) : State := { s with loc := x }

/-- The state with its `mse` replaced. -/
def State.withMse (s : State) (x : Mse) : State := { s with mse := x }

/-- The state with its `exd` replaced. -/
def State.withExd (s : State) (x : Exd) : State := { s with exd := x }

/-- The state with its `ext` replaced. -/
def State.withExt (s : State) (x : Ext) : State := { s with ext := x }

/-- The state with its `stu` replaced. -/
def State.withStu (s : State) (x : Stu) : State := { s with stu := x }

/-- The state with its `ltx` replaced. -/
def State.withLtx (s : State) (x : Ltx) : State := { s with ltx := x }

/-- The state with its `links` replaced. -/
def State.withLinks (s : State) (x : Links) : State := { s with links := x }

/-- The state with its `outbound` replaced. -/
def State.withOutbound (s : State) (x : List LaneSymbol) : State := { s with outbound := x }

/-! ### The check word (R3) -/

/-- R3: one bit of x^16 + x^12 + x^5 + 1. -/
def checkBit (c : Half) (b : Bool) : Half :=
  if (c.msb != b) then (c <<< 1) ^^^ 0x1021#16 else c <<< 1

/-- R3: one octet, most significant bit first. -/
def checkOctet (c : Half) (o : Octet) : Half :=
  [7, 6, 5, 4, 3, 2, 1, 0].foldl (fun c i => checkBit c (o.getLsbD i)) c

/-- R3: the register before the first header octet. -/
def checkPreset : Half := 0xFFFF#16

/-- R3: the check word of a sequence of octets. -/
def checkWord (os : List Octet) : Half := os.foldl checkOctet checkPreset

/-! ### What other blocks read -/

/-- R23: whether the run state is MEASURING. -/
def State.measuring (s : State) : Bool := s.cmu.runState == .measuring

/-- R24: whether a stage keeps an item that carries this run number, rather than discarding it. -/
def State.keeps (s : State) (run : BitVec 8) : Bool := s.measuring && run == s.cmu.runNumber

/-- R64, R68, R89: the measured position floor(D / 1,000), in mm. -/
def Odo.measured (o : Odo) : Int := ((o.d / 1000 : Nat) : Int)

/-- R1: the part's own station address, as the octet a header carries. -/
def State.stationOctet (s : State) : Octet := s.station.setWidth 8

/-- R1: the part drives the inbound reverse lane to GO at all times. -/
def State.inboundReverseLane (_ : State) : FlowIndication := .go

/-- R129: the limit set for a band and a measure. -/
def Exd.limitSet (x : Exd) (band : Fin 5) (m : Fin 16) : LimitSet := (x.limits[band])[m]

/-- R167, R39: the number of contexts in a state. -/
def Ext.countIn (x : Ext) (st : ContextState) : Nat := (x.contexts.toList.filter (fun c => c.state == st)).length

/-- R188: whether the response queue has a free place. -/
def Ltx.responseRoom (l : Ltx) : Bool := decide (l.responses.length < Config.responseCapacity)

/-! ### What is offered to LTX (R188) -/

/-- R188: a response joins the tail of the response queue. Callers place none without a free place (R25, R54). -/
def Ltx.placeResponse (l : Ltx) (r : Response) : Ltx := { l with responses := l.responses ++ [r] }

/-- R188: a location record joins with the lost count, or is dropped and counted. -/
def Ltx.offerLocation (l : Ltx) (r : LocationRecord) : Ltx :=
  if l.locations.length < Config.locationCapacity then
    { l with locations := l.locations ++ [{ r with lost := l.locationLost }], locationLost := 0 }
  else { l with locationLost := countUp Config.lostMax l.locationLost }

/-- R188: a segment record joins with the lost count, or is dropped and counted. -/
def Ltx.offerSegment (l : Ltx) (r : SegmentRecord) : Ltx :=
  if l.segments.length < Config.segmentCapacity then
    { l with segments := l.segments ++ [{ r with lostBefore := l.segmentLost }], segmentLost := 0 }
  else { l with segmentLost := countUp Config.lostMax l.segmentLost }

/-- R96, R97: a location record of the given kind, from LOC as the event leaves it. LTX fills in `lost`. -/
def Loc.record (l : Loc) (kind : LocationKind) (measured : Int) : LocationRecord :=
  { kind := kind, measured := measured, offset := l.offset, epoch := l.epoch, located := l.located, lost := 0 }

/-! ### Row blocks closing (R194) -/

/-- R193, R194: an OPEN buffer becomes PENDING with the rows it holds, and joins the closing order. -/
def Ltx.closeBuffer (l : Ltx) (i : Fin 2) : Ltx :=
  match l.buffers[i] with
  | .filling b => { l with buffers := l.buffers.set i (.pending b), closedOrder := l.closedOrder ++ [i] }
  | _ => l

/-- R194: the OPEN buffer, if there is one, becomes PENDING. -/
def Ltx.closeBlock (l : Ltx) : Ltx := (l.closeBuffer 0).closeBuffer 1

end Sys2Proof.Machine
end

