-- ==== Sys2Proof/Machine/Operands.lean ====
section
/-! DEFINITION. The octet layouts of R196: reading the fields of a payload, writing them, the codes of every enumeration,
and which command a command entry holds (R26). -/

namespace Sys2Proof.Machine

/-! ### Fields, high octet first -/

/-- R196: octets as an unsigned number, high octet first. -/
def natOf (os : List Octet) : Nat := os.foldl (fun a o => a * 256 + o.toNat) 0

/-- R196: the unsigned field of `width` octets at `offset`. -/
def field (os : List Octet) (offset width : Nat) : Nat := natOf ((os.drop offset).take width)

/-- R196: the signed field of `width` octets at `offset`, in two's complement. -/
def signedField (os : List Octet) (offset width : Nat) : Int :=
  if 2 * field os offset width < 256 ^ width then (field os offset width : Int)
  else (field os offset width : Int) - ((256 ^ width : Nat) : Int)

/-- R196: a number as `width` octets, high octet first, two's complement when it is negative. -/
def octetsOf : Nat → Int → List Octet
  | 0, _ => []
  | w + 1, x => BitVec.ofInt 8 (x / ((256 ^ w : Nat) : Int)) :: octetsOf w x

/-- R196: a no/yes field is 0 for no and 1 for yes. -/
def yesNo (b : Bool) : Octet := if b then 1 else 0

/-- R196: the value of a no/yes field, absent for any other code. -/
def yesNo? (x : Nat) : Option Bool :=
  match x with
  | 0 => some false
  | 1 => some true
  | _ => none

/-- R196: a flags octet, the first flag being bit 0, the least significant. -/
def flagsOctet (bs : List Bool) : Octet := BitVec.ofNat 8 (bs.foldr (fun b a => 2 * a + b.toNat) 0)

/-! ### Codes (R196) -/

/-- R196: the frame kind codes. -/
def kindSensor : Octet := 0x31
/-- R196: the frame kind codes. -/
def kindCommand : Octet := 0x32
/-- R196: the frame kind codes. -/
def kindResponse : Octet := 0x33
/-- R196: the frame kind codes. -/
def kindRows : Octet := 0x34
/-- R196: the frame kind codes. -/
def kindException : Octet := 0x35
/-- R196: the frame kind codes. -/
def kindAlert : Octet := 0x36
/-- R196: the frame kind codes. -/
def kindLocation : Octet := 0x37
/-- R196: the frame kind codes. -/
def kindSegment : Octet := 0x38

/-- R196: the status codes. -/
def Status.octet : Status → Octet
  | .ok => 0
  | .state => 1
  | .badArg => 2
  | .badTable => 3
  | .full => 4
  | .order => 5
  | .notFound => 6
  | .unknown => 7
  | .length => 8
  | .busy => 9
  | .aborted => 10
  | .timeout => 11

/-- R196: the run state code. -/
def RunState.octet : RunState → Octet
  | .stopped => 0
  | .measuring => 1
  | .suspended _ => 2

/-- R196: the suspend cause code; 0 when there is no cause (a field that may be absent is carried as 0). -/
def RunState.causeOctet : RunState → Octet
  | .suspended .reverse => 1
  | _ => 0

/-- R196: the receiver state code. -/
def Receiver.octet : Receiver → Octet
  | .hunt => 0
  | .ready => 1
  | .receiving _ => 2

/-- R196: the detector mode code. -/
def DetectorMode.octet : DetectorMode → Octet
  | .disabled => 0
  | .quiet => 1
  | .active => 2
  | .latched => 3

/-- R196: the sign mode code. -/
def SignMode.octet : SignMode → Octet
  | .both => 0
  | .positive => 1
  | .negative => 2

/-- R196: the sign mode a code names. -/
def signMode? (x : Nat) : Option SignMode :=
  match x with
  | 0 => some .both
  | 1 => some .positive
  | 2 => some .negative
  | _ => none

/-- R196: the slot source code. -/
def SlotSource.octet : SlotSource → Octet
  | .measure m => BitVec.ofNat 8 m.val
  | .openCount => 16
  | .speed => 17

/-- R196: the slot source a code names. -/
def slotSource? (x : Nat) : Option SlotSource :=
  if h : x < 16 then some (.measure ⟨x, h⟩) else if x = 16 then some .openCount else if x = 17 then some .speed else none

/-- R196: the slot function code. -/
def SlotFunction.octet : SlotFunction → Octet
  | .sigma => 0
  | .above => 1
  | .starts => 2
  | .peak => 3
  | .sum => 4

/-- R196: the slot function a code names. -/
def slotFunction? (x : Nat) : Option SlotFunction :=
  match x with
  | 0 => some .sigma
  | 1 => some .above
  | 2 => some .starts
  | 3 => some .peak
  | 4 => some .sum
  | _ => none

/-- R182: the slot status code. -/
def SlotStatus.octet : SlotStatus → Octet
  | .ok => 0
  | .empty => 1
  | .sat => 2

/-- R196: the class code of an exception. -/
def ExceptionClass.octet : ExceptionClass → Octet
  | .point => 0
  | .extended => 1
  | .long => 2

/-- R196: the reason code of an exception. -/
def ExceptionReason.octet : ExceptionReason → Octet
  | .none => 0
  | .truncated => 1
  | .suppressed => 2
  | .noLimits => 3

/-! ### Command entries (R18, R26) -/

/-- R26: the payload of the entry holds a command code and a tag. -/
def CommandEntry.whole (e : CommandEntry) : Bool := decide (3 ≤ e.payload.length)

/-- R196: the command code. -/
def CommandEntry.code (e : CommandEntry) : Octet := e.payload.headD 0

/-- R196: the tag. -/
def CommandEntry.tag (e : CommandEntry) : Half := BitVec.ofNat 16 (field e.payload 1 2)

/-- R196: the argument octets. -/
def CommandEntry.args (e : CommandEntry) : List Octet := e.payload.drop 3

/-- R196: the command code list: the row of spec/opcode_table.json that a code names, and its argument octets. -/
def commandCode? (code : Octet) : Option (Instr × Nat) :=
  match code.toNat with
  | 0x01 => some (.identify, 0)
  | 0x02 => some (.readStatus, 1)
  | 0x03 => some (.resetWarm, 0)
  | 0x04 => some (.resetCold, 0)
  | 0x10 => some (.startCommand, 0)
  | 0x11 => some (.stop, 0)
  | 0x12 => some (.suspend, 0)
  | 0x13 => some (.resume, 0)
  | 0x14 => some (.setPosition, 4)
  | 0x20 => some (.setConfig, 26)
  | 0x21 => some (.readConfig, 0)
  | 0x22 => some (.setStream, 3)
  | 0x30 => some (.writeChannel, 7)
  | 0x31 => some (.readChannel, 1)
  | 0x32 => some (.zero, 2)
  | 0x38 => some (.writeParameter, 15)
  | 0x39 => some (.readParameter, 1)
  | 0x40 => some (.writeMeasure, 6)
  | 0x41 => some (.readMeasure, 1)
  | 0x42 => some (.rebase, 2)
  | 0x48 => some (.writeLimits, 23)
  | 0x49 => some (.readLimits, 2)
  | 0x50 => some (.writeMark, 8)
  | 0x51 => some (.deleteMark, 2)
  | 0x52 => some (.clearMarks, 0)
  | 0x53 => some (.readMark, 2)
  | 0x58 => some (.appendSection, 16)
  | 0x59 => some (.clearSections, 0)
  | 0x5A => some (.readSection, 2)
  | 0x60 => some (.writeSlot, 10)
  | 0x61 => some (.readSlot, 1)
  | 0x62 => some (.freeze, 0)
  | 0x63 => some (.thaw, 0)
  | 0x64 => some (.resetStats, 0)
  | _ => none

/-- R26, case 2: the commands executed when broadcast. -/
def broadcastExecuted : Instr → Bool
  | .startCommand | .stop | .suspend | .resume | .freeze | .thaw => true
  | _ => false

/-- R26, cases 1 to 3: the row of spec/opcode_table.json that CMU carries out when it takes the entry. -/
def CommandEntry.row (e : CommandEntry) : Instr :=
  if !e.whole then .commandDiscarded
  else
    match commandCode? e.code with
    | some (i, _) => if e.broadcast && !broadcastExecuted i then .commandDiscarded else i
    | none => if e.broadcast then .commandDiscarded else .unknownCommand

/-- R196: the argument octets of the command a row names. -/
def argumentOctets (e : CommandEntry) : Nat :=
  match commandCode? e.code with
  | some (_, n) => n
  | none => 0

end Sys2Proof.Machine
end

