-- ==== Sys2Proof/Machine/PassThrough.lean ====
section
/-! DEFINITION. What LTX does with a frame passed on: the frame start notice, the octets, the end notice and the drop
notice that LRX sends it (R13, R189 to R191). While a copy is cut-through the lane state is CUT-THROUGH; else the frame is
in the store buffer. -/

namespace Sys2Proof.Machine

/-- R190: the condition for cut-through at a frame start notice. -/
def Ltx.cutsThrough (l : Ltx) : Bool :=
  l.lane == .idle && l.hold == .go && l.forward.isEmpty && l.alerts.isEmpty

/-- R190, R191: the frame start notice, with the five header octets. -/
def State.frameStartNotice (s : State) (head : List Octet) : State :=
  if s.ltx.cutsThrough then
    { s with ltx := { s.ltx with lane := .cutThrough }, outbound := s.outbound ++ .start :: head.map .octet }
  else { s with ltx := { s.ltx with store := some head } }

/-- R190, R191: a data octet handed over after the header. -/
def State.handOctet (s : State) (b : Octet) : State :=
  if s.ltx.lane = .cutThrough then { s with outbound := s.outbound ++ [.octet b] }
  else { s with ltx := { s.ltx with store := s.ltx.store.map (· ++ [b]) } }

/-- R191: the stored frame joins the forward queue, or is dropped and counted at a full one. -/
def Ltx.queueStored (l : Ltx) : Ltx :=
  match l.store with
  | none => l
  | some f =>
    if l.forward.length < Config.forwardCapacity then { l with forward := l.forward ++ [f], store := none }
    else { l with forwardsDropped := countUp Config.countMax l.forwardsDropped, store := none }

/-- R190, R191: the end notice. -/
def State.endNotice (s : State) : State :=
  if s.ltx.lane = .cutThrough then
    { s with ltx := { s.ltx with lane := .idle }, outbound := s.outbound ++ [.endFrame] }
  else { s with ltx := s.ltx.queueStored }

/-- R190, R191: the drop notice. -/
def State.dropNotice (s : State) : State :=
  if s.ltx.lane = .cutThrough then
    { s with ltx := { s.ltx with lane := .idle }, outbound := s.outbound ++ [.abort] }
  else { s with ltx := { s.ltx with store := none } }

end Sys2Proof.Machine
end

