-- ==== Sys2Proof/Machine/Receiver.lean ====
section
/-! DEFINITION. The Frame Link Receiver (chapter 1): what arrives on the inbound data lane, the judgement of frames, their
consumption into the two queues, and the line events. -/

namespace Sys2Proof.Machine

/-! ### The frame being assembled -/

/-- R5: a new frame being assembled. -/
def Assembly.fresh : Assembly := { octets := [], header := none, check := checkPreset, copyVoid := false }

/-- R8: the disposition of a frame. -/
def disposition (own destination source : Octet) : Disposition :=
  if destination = own then .consume
  else if source = own then .remove
  else if destination = 255 then .consumeAndForward
  else .forward

/-- R8, R13: whether a frame with this disposition is also handed to LTX. -/
def Disposition.forwards : Disposition → Bool
  | .forward | .consumeAndForward => true
  | .consume | .remove => false

/-- R8, R15: whether a frame with this disposition is consumed when it ends good. -/
def Disposition.consumes : Disposition → Bool
  | .consume | .consumeAndForward => true
  | .forward | .remove => false

/-- R2, R8: the header read from the first five octets. -/
def headerOf (own : Octet) (os : List Octet) : Header :=
  { destination := os.getD 0 0, source := os.getD 1 0, kind := os.getD 2 0, length := field os 3 2,
    disposition := disposition own (os.getD 0 0) (os.getD 1 0) }

/-- R13, R14: whether LRX is handing this frame over to LTX. -/
def Assembly.handsOver (f : Assembly) : Bool :=
  match f.header with
  | none => false
  | some h => h.disposition.forwards && !f.copyVoid

/-! ### Counting and dropping -/

/-- R20, R22: one event counted at a link counter. -/
def countLink (n : Nat) : Nat := countUp Config.countMax n

/-- R20: framing_errors is counted. -/
def LinkCounters.framing (c : LinkCounters) : LinkCounters := { c with framingErrors := countLink c.framingErrors }
/-- R20: length_errors is counted. -/
def LinkCounters.lengthError (c : LinkCounters) : LinkCounters := { c with lengthErrors := countLink c.lengthErrors }
/-- R20: check_errors is counted. -/
def LinkCounters.checkError (c : LinkCounters) : LinkCounters := { c with checkErrors := countLink c.checkErrors }
/-- R20: good_frames is counted. -/
def LinkCounters.good (c : LinkCounters) : LinkCounters := { c with goodFrames := countLink c.goodFrames }
/-- R20: aborts_received is counted. -/
def LinkCounters.aborted (c : LinkCounters) : LinkCounters := { c with abortsReceived := countLink c.abortsReceived }
/-- R20: lock_losses is counted. -/
def LinkCounters.lockLoss (c : LinkCounters) : LinkCounters := { c with lockLosses := countLink c.lockLosses }
/-- R21: returned is counted. -/
def LinkCounters.returnedFrame (c : LinkCounters) : LinkCounters := { c with returned := countLink c.returned }
/-- R21: sensor_overruns is counted. -/
def LinkCounters.overrun (c : LinkCounters) : LinkCounters := { c with sensorOverruns := countLink c.sensorOverruns }
/-- R21: commands_dropped is counted. -/
def LinkCounters.commandDropped (c : LinkCounters) : LinkCounters := { c with commandsDropped := countLink c.commandsDropped }
/-- R21: unknown_kind is counted. -/
def LinkCounters.unknown (c : LinkCounters) : LinkCounters := { c with unknownKind := countLink c.unknownKind }

/-- R9 to R13: a frame is discarded, with a drop notice if it was being handed over. -/
def State.discardFrame (s : State) (f : Assembly) : State := if f.handsOver then s.dropNotice else s

/-- The receiver moves to a state and the counters take new values. -/
def Lrx.move (l : Lrx) (r : Receiver) (c : LinkCounters) : Lrx := { l with receiver := r, counters := c }

/-- R4, R5: the receiver leaves HUNT, which sets the link-up flag. -/
def Lrx.leaveHunt (l : Lrx) (r : Receiver) : Lrx := { l with receiver := r, linkUp := true }

/-! ### Consuming a good frame (R15 to R19) -/

/-- R16, R196: the entry of a SENSOR payload, with its overrun mark clear. -/
def sensorEntry (p : List Octet) : SensorEntry :=
  { tach := BitVec.ofNat 32 (field p 0 4)
    timestamp := BitVec.ofNat 32 (field p 4 4)
    sequence := BitVec.ofNat 16 (field p 8 2)
    markId := if field p 10 2 = 0 then none else some (field p 10 2)
    raw := Vector.ofFn fun i : Fin 12 => signedField p (14 + 2 * i.val) 2
    sensorValid := BitVec.ofNat 12 (field p 12 2)
    overrun := false }

/-- R17: the entry that replaces the tail entry of a full queue. -/
def SensorEntry.replacing (new old : SensorEntry) : SensorEntry :=
  { new with overrun := true, markId := new.markId.or old.markId }

/-- R16, R17: a sensor frame joins the intake queue, or replaces its tail entry at a full queue. -/
def Lrx.takeSensor (l : Lrx) (e : SensorEntry) : Lrx :=
  if l.intake.length < Config.intakeCapacity then { l with intake := l.intake ++ [e] }
  else
    match l.intake.getLast? with
    | some old => { l with intake := l.intake.dropLast ++ [e.replacing old], counters := l.counters.overrun }
    | none => l

/-- R18, R19: a command frame joins the command queue, or is dropped at a full queue. -/
def Lrx.takeCommand (l : Lrx) (e : CommandEntry) : Lrx :=
  if l.commands.length < Config.commandCapacity then { l with commands := l.commands ++ [e] }
  else { l with counters := l.counters.commandDropped }

/-- R15: a good frame is consumed by its kind. -/
def Lrx.consume (l : Lrx) (h : Header) (payload : List Octet) : Lrx :=
  if h.kind = kindSensor then
    if payload.length = Config.sensorPayload then l.takeSensor (sensorEntry payload)
    else { l with counters := l.counters.lengthError }
  else if h.kind = kindCommand then
    l.takeCommand { source := h.source, broadcast := h.destination == 255, payload := payload }
  else { l with counters := l.counters.unknown }

/-! ### The judgement at END (R10) -/

/-- R2: the payload of a frame: the octets between the header and the check word. -/
def Assembly.payload (f : Assembly) (h : Header) : List Octet := (f.octets.drop 5).take h.length

/-- R3, R10: the check word carried in the last two octets matches the one computed. -/
def Assembly.checkMatches (f : Assembly) (h : Header) : Bool := field f.octets (5 + h.length) 2 == f.check.toNat

/-- R10: a good frame, by its disposition: an end notice, the count of returned, and consumption. -/
def State.goodFrame (s : State) (f : Assembly) (h : Header) : State :=
  let s1 := s.withLrx (s.lrx.move .ready s.lrx.counters.good)
  let s2 := if f.handsOver then s1.endNotice else s1
  if h.disposition = .remove then s2.withLrx (s2.lrx.move .ready s2.lrx.counters.returnedFrame)
  else if h.disposition.consumes then s2.withLrx (s2.lrx.consume h (f.payload h))
  else s2

/-- R10: END closes the frame being assembled. -/
def State.judgeFrame (s : State) (f : Assembly) : State :=
  match f.header with
  | none => s.withLrx (s.lrx.move .ready s.lrx.counters.lengthError)
  | some h =>
    if f.octets.length ≠ 7 + h.length then
      (s.withLrx (s.lrx.move .ready s.lrx.counters.lengthError)).discardFrame f
    else if f.checkMatches h then s.goodFrame f h
    else (s.withLrx (s.lrx.move .ready s.lrx.counters.checkError)).discardFrame f

/-! ### The arrivals (R5 to R11) -/

/-- R7, R8: a data octet of a header not yet complete. -/
def State.headerOctet (s : State) (f : Assembly) (b : Octet) : State :=
  let g := { f with octets := f.octets ++ [b], check := checkOctet f.check b }
  if g.octets.length < 5 then s.withLrx { s.lrx with receiver := .receiving g }
  else
    let h := headerOf s.stationOctet g.octets
    if Config.payloadMax < h.length then s.withLrx (s.lrx.move .hunt s.lrx.counters.lengthError)
    else
      let g := { g with header := some h }
      let s1 := s.withLrx { s.lrx with receiver := .receiving g }
      if g.handsOver then s1.frameStartNotice (g.octets.take 5) else s1

/-- R7, R9, R13: a data octet after the header. -/
def State.bodyOctet (s : State) (f : Assembly) (h : Header) (b : Octet) : State :=
  let count := f.octets.length + 1
  if 8 + h.length ≤ count then (s.withLrx (s.lrx.move .hunt s.lrx.counters.framing)).discardFrame f
  else
    let g := { f with
      octets := f.octets ++ [b]
      check := if count ≤ 5 + h.length then checkOctet f.check b else f.check }
    let s1 := s.withLrx { s.lrx with receiver := .receiving g }
    if g.handsOver then s1.handOctet b else s1

/-- R5 to R7: the arrival of a data octet. -/
def State.arriveOctet (s : State) (b : Octet) : State :=
  match s.lrx.receiver with
  | .hunt => s
  | .ready => s.withLrx (s.lrx.move .hunt s.lrx.counters.framing)
  | .receiving f =>
    match f.header with
    | none => s.headerOctet f b
    | some h => s.bodyOctet f h b

/-- R5, R6, R11: the arrival of IDLE. -/
def State.arriveIdle (s : State) : State :=
  match s.lrx.receiver with
  | .hunt => s.withLrx (s.lrx.leaveHunt .ready)
  | .ready => s
  | .receiving f => (s.withLrx (s.lrx.move .ready s.lrx.counters.framing)).discardFrame f

/-- R5, R6, R11: the arrival of START. -/
def State.arriveStart (s : State) : State :=
  match s.lrx.receiver with
  | .hunt => s.withLrx (s.lrx.leaveHunt (.receiving .fresh))
  | .ready => s.withLrx { s.lrx with receiver := .receiving .fresh }
  | .receiving f => (s.withLrx (s.lrx.move (.receiving .fresh) s.lrx.counters.framing)).discardFrame f

/-- R5, R6, R10: the arrival of END. -/
def State.arriveEnd (s : State) : State :=
  match s.lrx.receiver with
  | .hunt => s
  | .ready => s.withLrx (s.lrx.move .ready s.lrx.counters.framing)
  | .receiving f => s.judgeFrame f

/-- R5, R6, R11: the arrival of ABORT. -/
def State.arriveAbort (s : State) : State :=
  match s.lrx.receiver with
  | .hunt => s
  | .ready => s.withLrx (s.lrx.move .ready s.lrx.counters.framing)
  | .receiving f => (s.withLrx (s.lrx.move .ready s.lrx.counters.aborted)).discardFrame f

/-- R12: loss of line-code lock. -/
def State.loseLock (s : State) : State :=
  let s1 := (s.withLineLock false).withLrx
    { s.lrx with receiver := .hunt, linkUp := false, counters := s.lrx.counters.lockLoss }
  match s.lrx.receiver with
  | .receiving f => s1.discardFrame f
  | _ => s1

/-- Section 1.1: while line-code lock is lost, no symbol arrives. -/
def State.whileLocked (s : State) (arrival : State → State) : Host.Outcome State Fault Refusal :=
  .next (if s.lineLock then arrival s else s)

/-! ### The meanings -/

/-- DATA_OCTET (R5 to R9). -/
def execDataOctet (b : Octet) (s : State) : Host.Outcome State Fault Refusal := s.whileLocked (fun s => s.arriveOctet b)

/-- IDLE (R5, R6, R11). -/
def execIdle (s : State) : Host.Outcome State Fault Refusal := s.whileLocked State.arriveIdle

/-- START (R5, R6, R11). -/
def execStart (s : State) : Host.Outcome State Fault Refusal := s.whileLocked State.arriveStart

/-- END (R5, R6, R10, R15). -/
def execEndFrame (s : State) : Host.Outcome State Fault Refusal := s.whileLocked State.arriveEnd

/-- ABORT (R5, R6, R11). -/
def execAbort (s : State) : Host.Outcome State Fault Refusal := s.whileLocked State.arriveAbort

/-- LOSS_OF_LOCK (R12). -/
def execLossOfLock (s : State) : Host.Outcome State Fault Refusal := .next s.loseLock

/-- LOCK_ACQUIRED (R1): no state of LRX changes; symbol arrivals resume. -/
def execLockAcquired (s : State) : Host.Outcome State Fault Refusal := .next (s.withLineLock true)

end Sys2Proof.Machine
end

