-- ==== Sys2Proof/Machine/CommandUnit.lean ====
section
/-! DEFINITION. How CMU takes a command, judges it and answers it (R25 to R27, R40), and the two outcomes that carry no
command: COMMAND_DISCARDED and UNKNOWN_COMMAND. -/

namespace Sys2Proof.Machine

/-- R27: the status and the results of a response. -/
structure Reply where
  status : Status
  results : List Octet
  deriving DecidableEq, Repr

/-- R27: a refused command's response carries no results. -/
def Reply.refuse (st : Status) : Reply := { status := st, results := [] }

/-- R27: an OK response with its results. -/
def Reply.done (results : List Octet) : Reply := { status := .ok, results := results }

/-- R25: the head entry of the command queue, when CMU can take it and it is carried out as the given row. No other
command's execution is in progress, each command being one step (assumption log 5). -/
def State.headCommand (s : State) (row : Instr) : Option CommandEntry :=
  match s.lrx.commands with
  | [] => none
  | e :: _ =>
    if s.cmu.resetPending = none ∧ (e.broadcast = true ∨ s.ltx.responseRoom = true) ∧ e.row = row then some e else none

/-- R25: CMU removes the entry when it takes it. -/
def State.dropCommand (s : State) : State := s.withLrx { s.lrx with commands := s.lrx.commands.tail }

/-- R23, R26: commands_discarded is counted. -/
def State.countDiscarded (s : State) : State :=
  s.withCmu { s.cmu with commandsDiscarded := countUp Config.countMax s.cmu.commandsDiscarded }

/-- R27: the response to a command entry. -/
def CommandEntry.response (e : CommandEntry) (r : Reply) : Response :=
  { destination := e.source, code := e.code, tag := e.tag, status := r.status, results := r.results }

/-- R26, R27: the response is placed; a broadcast command gets none, and is counted if it was refused. -/
def State.answer (s : State) (e : CommandEntry) (r : Reply) : State :=
  if e.broadcast then (if r.status = .ok then s else s.countDiscarded)
  else s.withLtx (s.ltx.placeResponse (e.response r))

/-- R26, cases 4 to 7: the layout's length, the run state, then the owning block. `refusal` is the answer of cases 4
and 5. -/
def State.judgeCommand (s : State) (e : CommandEntry) (allowed : RunState → Bool) (refusal : Status → Reply)
    (act : CommandEntry → State → State × Reply) : State × Reply :=
  if e.args.length ≠ argumentOctets e then (s, refusal .length)
  else if allowed s.cmu.runState then act e s
  else (s, refusal .state)

/-- R25 to R27: CMU takes the head entry if it can, carries the command out and answers it. A head entry that cannot be
taken, or that is another row's, stays where it is. -/
def State.runCommand (s : State) (row : Instr) (allowed : RunState → Bool)
    (act : CommandEntry → State → State × Reply) : State :=
  match s.headCommand row with
  | none => s
  | some e =>
    let o := s.dropCommand.judgeCommand e allowed .refuse act
    o.1.answer e o.2

/-- Section 2.4: a command accepted in any run state. -/
def anyRunState (_ : RunState) : Bool := true

/-- Section 2.4: a command accepted in STOPPED. -/
def onlyStopped (r : RunState) : Bool := r == .stopped

/-- Section 2.4: a command accepted in MEASURING. -/
def onlyMeasuring (r : RunState) : Bool := r == .measuring

/-- Section 2.4: a command accepted in SUSPENDED, with either cause. -/
def onlySuspended : RunState → Bool
  | .suspended _ => true
  | _ => false

/-- COMMAND_DISCARDED (R26, cases 1 and 2). -/
def execCommandDiscarded (s : State) : Host.Outcome State Fault Refusal :=
  .next (match s.headCommand .commandDiscarded with
    | none => s
    | some _ => s.dropCommand.countDiscarded)

/-- UNKNOWN_COMMAND (R26, case 3). -/
def execUnknownCommand (s : State) : Host.Outcome State Fault Refusal :=
  .next (match s.headCommand .unknownCommand with
    | none => s
    | some e => s.dropCommand.answer e (.refuse .unknown))

end Sys2Proof.Machine
end

