-- ==== Sys2Proof/Machine/Calibration.lean ====
section
/-! DEFINITION. The Channel Calibrator (chapter 3): the channel table, the frame take, and the ZERO operation. -/

namespace Sys2Proof.Machine

/-! ### Calibrating a frame (R45 to R47) -/

/-- R46: the rounded quotient of a reading, before the limit. -/
def ChannelEntry.scaled (c : ChannelEntry) (r : Int) : Int := nearest ((r - c.offset) * c.gain) 16384

/-- R45, R46: a channel's calibrated value. -/
def ChannelEntry.calibrate (c : ChannelEntry) (sensorValid : Bool) (r : Int) : Quantity :=
  if c.enabled && sensorValid then
    { value := clamp (c.scaled r) (-32768) 32767, valid := true,
      saturated := clamp (c.scaled r) (-32768) 32767 != c.scaled r }
  else .invalid

/-- R47: the calibrated frame record of an entry. -/
def Cal.calibrate (c : Cal) (e : SensorEntry) : CalFrame :=
  { tach := e.tach, timestamp := e.timestamp, sequence := e.sequence, markId := e.markId, overrun := e.overrun,
    channels := Vector.ofFn fun i : Fin 12 => (c.channels[i]).calibrate (e.sensorValid.getLsbD i.val) (e.raw[i]) }

/-! ### The ZERO operation (R50 to R54) -/

/-- R50: whether a frame's reading counts for a masked channel. -/
def ZeroCollection.takes (z : ZeroCollection) (e : SensorEntry) (i : Fin 12) : Bool :=
  z.mask.getLsbD i.val && decide (z.counts[i] < Config.zeroReadings) && e.sensorValid.getLsbD i.val

/-- R50: a frame's readings added to the sums. -/
def ZeroCollection.add (z : ZeroCollection) (e : SensorEntry) : ZeroCollection :=
  { z with
    counts := Vector.ofFn fun i : Fin 12 => if z.takes e i then z.counts[i] + 1 else z.counts[i]
    sums := Vector.ofFn fun i : Fin 12 => if z.takes e i then z.sums[i] + e.raw[i] else z.sums[i] }

/-- R51, R52: a masked channel whose count has reached 64. -/
def ZeroCollection.completed (z : ZeroCollection) (i : Fin 12) : Bool :=
  z.mask.getLsbD i.val && decide (Config.zeroReadings ≤ z.counts[i])

/-- R51: every masked channel has 64 readings. -/
def ZeroCollection.complete (z : ZeroCollection) : Bool :=
  (List.finRange 12).all (fun i => !z.mask.getLsbD i.val || z.completed i)

/-- A set of channels as a mask: bit n, bit 0 the least significant, for Cn (assumption log 31: DESIGN CHOICE). -/
def channelMask (f : Fin 12 → Bool) : BitVec 12 :=
  (List.finRange 12).foldl (fun m i => if f i then m ||| BitVec.twoPow 12 i.val else m) 0

/-- R51, R52: the channel table with the new offset of every completed channel. -/
def Cal.applyZero (c : Cal) (z : ZeroCollection) : Vector ChannelEntry 12 :=
  Vector.ofFn fun i : Fin 12 =>
    if z.completed i then { (c.channels[i]) with offset := nearest (z.sums[i]) 64 } else c.channels[i]

/-- The offsets of a channel table. -/
def offsetsOf (t : Vector ChannelEntry 12) : Vector Int 12 := Vector.ofFn fun i : Fin 12 => (t[i]).offset

/-- R51 to R53: the ZERO record moves to REPORTING with what the response will carry. -/
def ZeroCollection.report (z : ZeroCollection) (status : Status) (completed : BitVec 12) (offsets : Vector Int 12) :
    ZeroRecord :=
  .reporting { mask := z.mask, tag := z.tag, source := z.source, status := status, completed := completed,
               counts := z.counts, offsets := offsets }

/-- R51, R52: the ZERO ends with the completed channels' offsets applied. -/
def Cal.endZero (c : Cal) (z : ZeroCollection) (status : Status) : Cal :=
  { c with
    channels := c.applyZero z
    zero := z.report status (channelMask z.completed) (offsetsOf (c.applyZero z)) }

/-- R53: the start notice aborts a ZERO in COLLECTING and leaves any other as it stands. -/
def Cal.abortZero (c : Cal) : Cal :=
  match c.zero with
  | .collecting z => { c with zero := z.report .aborted 0 (offsetsOf c.channels) }
  | _ => c

/-- R54, R196: the results of a ZERO response: mask, completed set, counts and offsets. The status stands once, in the status
octet of the response (assumption log 10), and each offset takes 2 octets, as the offset of a channel entry does
(assumption log 30: DESIGN CHOICE; R196 lists 'offset' at 2 octets and 'offsets' at 4). -/
def zeroResults (mask : Half) (completed : BitVec 12) (counts : Vector Nat 12) (offsets : Vector Int 12) : List Octet :=
  octetsOf 2 mask.toNat ++ octetsOf 2 completed.toNat ++ counts.toList.flatMap (fun n => octetsOf 1 n) ++
    offsets.toList.flatMap (octetsOf 2)

/-- R54: the deferred ZERO response; its command code is 0x32. -/
def ZeroReport.response (r : ZeroReport) : Response :=
  { destination := r.source, code := 0x32, tag := r.tag, status := r.status,
    results := zeroResults (r.mask.setWidth 16) r.completed r.counts r.offsets }

/-- R54: CAL places a waiting ZERO response if the response queue has a free place, and the ZERO record returns to IDLE. -/
def State.placeZero (s : State) : State :=
  match s.cal.zero with
  | .reporting r =>
    if s.ltx.responseRoom then (s.withLtx (s.ltx.placeResponse r.response)).withCal { s.cal with zero := .idle } else s
  | _ => s

/-! ### The frame take (R44) -/

/-- R44: the conditions of the frame take. -/
def State.frameToTake (s : State) : Option SensorEntry :=
  match s.lrx.intake with
  | [] => none
  | e :: _ => if s.cal.held = none then some e else none

/-- R44, R50: CAL after a frame take, before a completed ZERO is applied. -/
def Cal.take (c : Cal) (e : SensorEntry) : Cal :=
  let f := c.calibrate e
  { c with
    held := some f
    lastReading := Vector.ofFn fun i : Fin 12 => some { raw := e.raw[i], quantity := f.channels[i] }
    zero := match c.zero with
      | .collecting z => .collecting (z.add e)
      | other => other }

/-- R51: a ZERO whose last masked channel has reached 64 completes, and its response is placed if it can be. -/
def State.completeZero (s : State) : State :=
  match s.cal.zero with
  | .collecting z => if z.complete then (s.withCal (s.cal.endZero z .ok)).placeZero else s
  | _ => s

/-- R44: the frame take. -/
def State.takeFrame (s : State) : State :=
  match s.frameToTake with
  | none => s
  | some e => ((s.withLrx { s.lrx with intake := s.lrx.intake.tail }).withCal (s.cal.take e)).completeZero

/-- FRAME_TAKE (R44, R50, R51). -/
def execFrameTake (s : State) : Host.Outcome State Fault Refusal := .next s.takeFrame

/-- R52: the timeout of a ZERO in COLLECTING expires. -/
def State.expireZero (s : State) : State :=
  match s.cal.zero with
  | .collecting z => (s.withCal (s.cal.endZero z .timeout)).placeZero
  | _ => s

/-- ZERO_TIMEOUT (R52). -/
def execZeroTimeout (s : State) : Host.Outcome State Fault Refusal := .next s.expireZero

/-- ZERO_RESPONSE_PLACED (R54). -/
def execZeroResponsePlaced (s : State) : Host.Outcome State Fault Refusal := .next s.placeZero

/-! ### Commands (R42, R43, R49) -/

/-- R42: the entry a WRITE CHANNEL carries, if its flags are no or yes. -/
def channelEntry? (a : List Octet) : Option ChannelEntry :=
  match yesNo? (field a 1 1), yesNo? (field a 6 1) with
  | some enabled, some inertial =>
    some { enabled := enabled, gain := signedField a 2 2, offset := signedField a 4 2, inertial := inertial }
  | _, _ => none

/-- R42: a channel that a ZERO in COLLECTING names in its mask. -/
def Cal.zeroing (c : Cal) (i : Fin 12) : Bool :=
  match c.zero with
  | .collecting z => z.mask.getLsbD i.val
  | _ => false

/-- R42: WRITE CHANNEL at CAL. R42 gives its two refusals no order: a number or a flag out of range is answered BAD_ARG before
a channel of a collecting ZERO is answered BUSY (assumption log 29: DESIGN CHOICE). -/
def writeChannel (e : CommandEntry) (s : State) : State × Reply :=
  if h : field e.args 0 1 < 12 then
    match channelEntry? e.args with
    | none => (s, .refuse .badArg)
    | some c =>
      if s.cal.zeroing ⟨field e.args 0 1, h⟩ then (s, .refuse .busy)
      else (s.withCal { s.cal with channels := s.cal.channels.set (field e.args 0 1) c h }, .done [])
  else (s, .refuse .badArg)

/-- WRITE_CHANNEL (R42). -/
def execWriteChannel (s : State) : Host.Outcome State Fault Refusal :=
  .next (s.runCommand .writeChannel onlyStopped writeChannel)

/-- R43, R196: the last reading after its presence octet, as zeros when it is absent. -/
def readingOctets : Option Reading → List Octet
  | none => [yesNo false] ++ octetsOf 2 0 ++ octetsOf 2 0 ++ [yesNo false, yesNo false]
  | some r =>
    [yesNo true] ++ octetsOf 2 r.raw ++ octetsOf 2 r.quantity.value ++ [yesNo r.quantity.valid, yesNo r.quantity.saturated]

/-- R43: the results of READ CHANNEL. -/
def Cal.channelResults (c : Cal) (i : Fin 12) : List Octet :=
  [yesNo (c.channels[i]).enabled] ++ octetsOf 2 (c.channels[i]).gain ++ octetsOf 2 (c.channels[i]).offset ++
    [yesNo (c.channels[i]).inertial] ++ readingOctets (c.lastReading[i])

/-- R43: READ CHANNEL at CAL. -/
def readChannel (e : CommandEntry) (s : State) : State × Reply :=
  if h : field e.args 0 1 < 12 then (s, .done (s.cal.channelResults ⟨field e.args 0 1, h⟩)) else (s, .refuse .badArg)

/-- READ_CHANNEL (R43). -/
def execReadChannel (s : State) : Host.Outcome State Fault Refusal :=
  .next (s.runCommand .readChannel anyRunState readChannel)

/-- R54: the answer to a ZERO refused at once, with the mask given. -/
def State.zeroRefusal (s : State) (mask : Half) (st : Status) : Reply :=
  { status := st, results := zeroResults mask 0 (Vector.replicate 12 0) (offsetsOf s.cal.channels) }

/-- R49: the mask a ZERO carries: bit n, bit 0 the least significant, for Cn (assumption log 31: DESIGN CHOICE). -/
def zeroMask (e : CommandEntry) : Half := BitVec.ofNat 16 (field e.args 0 2)

/-- R49: the checks of ZERO after the run state, in order. -/
def Cal.zeroCheck (c : Cal) (mask : Half) : Option Status :=
  if c.zero ≠ .idle then some .busy
  else if mask = 0 ∨ 4096 ≤ mask.toNat then some .badArg
  else if (List.finRange 12).any (fun i => mask.getLsbD i.val && !(c.channels[i]).enabled) then some .badArg
  else none

/-- R49: the collection an accepted ZERO begins. -/
def zeroCollection (e : CommandEntry) : ZeroCollection :=
  { mask := (zeroMask e).setWidth 12, tag := e.tag, source := e.source, counts := Vector.replicate 12 0,
    sums := Vector.replicate 12 0, timeoutMs := Config.zeroTimeoutMs }

/-- R49: an accepted ZERO fills the ZERO record. -/
def Cal.beginZero (c : Cal) (e : CommandEntry) : Cal := { c with zero := .collecting (zeroCollection e) }

/-- R26, R49, R54: ZERO once CMU has taken it: an answer at once, or a collection begun with no answer yet. -/
def State.runZero (s : State) (e : CommandEntry) : State :=
  if e.args.length ≠ argumentOctets e then s.answer e (s.zeroRefusal 0 .length)
  else if onlyStopped s.cmu.runState then
    match s.cal.zeroCheck (zeroMask e) with
    | some st => s.answer e (s.zeroRefusal (zeroMask e) st)
    | none => s.withCal (s.cal.beginZero e)
  else s.answer e (s.zeroRefusal (zeroMask e) .state)

/-- ZERO (R49). -/
def execZero (s : State) : Host.Outcome State Fault Refusal :=
  .next (match s.headCommand .zero with
    | none => s
    | some e => s.dropCommand.runZero e)

end Sys2Proof.Machine
end

