-- ==== Sys2Proof/Machine/Location.lean ====
section
/-! DEFINITION. The Location Unit (chapter 5): located position and section attributes of a sample, the correction epoch,
SET POSITION, the mark table and the mark hand-off, the section table, and loss of location. -/

namespace Sys2Proof.Machine

/-- The range of positions and offsets (R84). -/
def inPositionRange (x : Int) : Bool := decide (Config.positionMin ≤ x) && decide (x ≤ Config.positionMax)

/-- A value limited to the range of positions (R86, R97). -/
def clampPosition (x : Int) : Int := clamp x Config.positionMin Config.positionMax

/-- R88: the epoch increases, which sets the section cursor absent. -/
def Loc.nextEpoch (l : Loc) : Loc := { l with epoch := l.epoch + 1, cursor := none }

/-- R97: a location record is offered to the location queue. -/
def State.emitLocation (s : State) (kind : LocationKind) (measured : Int) : State :=
  s.withLtx (s.ltx.offerLocation (s.loc.record kind measured))

/-! ### The mark table (R90 to R92) -/

/-- R90: the entry of a mark id. -/
def markEntry? (t : List (Nat × MarkEntry)) (q : Nat) : Option MarkEntry :=
  match t with
  | [] => none
  | p :: rest => if p.1 = q then some p.2 else markEntry? rest q

/-- R91: the table with the entry of an id added or replaced, in ascending order of id. -/
def markInsert (t : List (Nat × MarkEntry)) (q : Nat) (e : MarkEntry) : List (Nat × MarkEntry) :=
  match t with
  | [] => [(q, e)]
  | p :: rest =>
    if q < p.1 then (q, e) :: p :: rest
    else if q = p.1 then (q, e) :: rest
    else p :: markInsert rest q e

/-- R92: the table without the entry of an id. -/
def markErase (t : List (Nat × MarkEntry)) (q : Nat) : List (Nat × MarkEntry) := t.filter (fun p => p.1 != q)

/-- R91: WRITE MARK at LOC. -/
def writeMark (e : CommandEntry) (s : State) : State × Reply :=
  let q := field e.args 0 2
  if q = 0 then (s, .refuse .badArg)
  else if markEntry? s.loc.marks q = none ∧ Config.markCapacity ≤ s.loc.marks.length then (s, .refuse .full)
  else
    let t := markInsert s.loc.marks q { position := signedField e.args 2 4, window := field e.args 6 2 }
    (s.withLoc { s.loc with marks := t }, .done (octetsOf 2 t.length))

/-- R92: DELETE MARK at LOC. -/
def deleteMark (e : CommandEntry) (s : State) : State × Reply :=
  let q := field e.args 0 2
  if q = 0 then (s, .refuse .badArg)
  else if markEntry? s.loc.marks q = none then (s, .refuse .notFound)
  else (s.withLoc { s.loc with marks := markErase s.loc.marks q }, .done (octetsOf 2 (markErase s.loc.marks q).length))

/-- R92: CLEAR MARKS at LOC. -/
def clearMarks (_ : CommandEntry) (s : State) : State × Reply :=
  (s.withLoc { s.loc with marks := [] }, .done (octetsOf 2 0))

/-- R92: READ MARK at LOC. -/
def readMark (e : CommandEntry) (s : State) : State × Reply :=
  let q := field e.args 0 2
  if q = 0 then (s, .refuse .badArg)
  else
    match markEntry? s.loc.marks q with
    | none => (s, .refuse .notFound)
    | some m => (s, .done (octetsOf 4 m.position ++ octetsOf 2 m.window ++ octetsOf 2 s.loc.marks.length))

/-- WRITE_MARK (R91). -/
def execWriteMark (s : State) : Host.Outcome State Fault Refusal := .next (s.runCommand .writeMark anyRunState writeMark)

/-- DELETE_MARK (R92). -/
def execDeleteMark (s : State) : Host.Outcome State Fault Refusal :=
  .next (s.runCommand .deleteMark anyRunState deleteMark)

/-- CLEAR_MARKS (R92). -/
def execClearMarks (s : State) : Host.Outcome State Fault Refusal :=
  .next (s.runCommand .clearMarks anyRunState clearMarks)

/-- READ_MARK (R92). -/
def execReadMark (s : State) : Host.Outcome State Fault Refusal := .next (s.runCommand .readMark anyRunState readMark)

/-! ### SET POSITION (R89) -/

/-- R89: LOC after an accepted SET POSITION. -/
def Loc.setPosition (l : Loc) (offset : Int) : Loc := { l.nextEpoch with offset := offset, located := true }

/-- R89: SET POSITION at LOC. The δ of the response is limited as the record's is (assumption log 13). -/
def setPosition (e : CommandEntry) (s : State) : State × Reply :=
  let offset := signedField e.args 0 4 - s.odo.measured
  if inPositionRange offset then
    let delta := clampPosition (offset - s.loc.offset)
    let s1 := s.withLoc (s.loc.setPosition offset)
    (s1.emitLocation (.positionSet delta) s.odo.measured,
     .done (octetsOf 4 s.odo.measured ++ octetsOf 4 offset ++ octetsOf 4 delta ++ octetsOf 1 s1.loc.epoch.toNat))
  else (s, .refuse .badArg)

/-- SET_POSITION (R89). -/
def execSetPosition (s : State) : Host.Outcome State Fault Refusal :=
  .next (s.runCommand .setPosition anyRunState setPosition)

/-! ### The section table (R98 to R102) -/

/-- R99: the cant an APPEND SECTION carries, absent when the presence octet is neither no nor yes. -/
def sectionCant? (a : List Octet) : Option (Option Int) :=
  match yesNo? (field a 11 1) with
  | some true => some (some (signedField a 12 4))
  | some false => some none
  | none => none

/-- R99, check 1: the section entry carried, if its fields are in range. -/
def sectionEntry? (a : List Octet) : Option SectionEntry :=
  if h : field a 8 1 < 5 then
    match sectionCant? a with
    | none => none
    | some cant =>
      if signedField a 0 4 < signedField a 4 4 ∧ ∀ v ∈ cant, -Config.valueMax ≤ v ∧ v ≤ Config.valueMax then
        some { start := signedField a 0 4, finish := signedField a 4 4, band := ⟨field a 8 1, h⟩,
               suppress := BitVec.ofNat 16 (field a 9 2), cant := cant }
      else none
  else none

/-- R99, check 2: the section starts below the end of the tail entry. -/
def outOfOrder (t : List SectionEntry) (x : SectionEntry) : Bool :=
  match t.getLast? with
  | none => false
  | some tail => decide (x.start < tail.finish)

/-- R99: APPEND SECTION at LOC. -/
def appendSection (e : CommandEntry) (s : State) : State × Reply :=
  match sectionEntry? e.args with
  | none => (s, .refuse .badArg)
  | some x =>
    if outOfOrder s.loc.sections x then (s, .refuse .order)
    else if Config.sectionCapacity ≤ s.loc.sections.length then (s, .refuse .full)
    else
      (s.withLoc { s.loc with sections := s.loc.sections ++ [x], cursor := none },
       .done (octetsOf 2 (s.loc.sections.length + 1 : Nat)))

/-- R102: CLEAR SECTIONS at LOC. -/
def clearSections (_ : CommandEntry) (s : State) : State × Reply :=
  (s.withLoc { s.loc with sections := [], cursor := none }, .done (octetsOf 2 0))

/-- R102, R196: a section entry in a READ SECTION response; its cant after a presence octet. -/
def SectionEntry.octets (x : SectionEntry) : List Octet :=
  octetsOf 4 x.start ++ octetsOf 4 x.finish ++ octetsOf 1 x.band.val ++ octetsOf 2 x.suppress.toNat ++
    [yesNo x.cant.isSome] ++ octetsOf 4 (x.cant.getD 0)

/-- R102: READ SECTION at LOC. -/
def readSection (e : CommandEntry) (s : State) : State × Reply :=
  if 511 < field e.args 0 2 then (s, .refuse .badArg)
  else
    match s.loc.sections[field e.args 0 2]? with
    | none => (s, .refuse .notFound)
    | some x => (s, .done (octetsOf 2 s.loc.sections.length ++ x.octets))

/-- APPEND_SECTION (R99). -/
def execAppendSection (s : State) : Host.Outcome State Fault Refusal :=
  .next (s.runCommand .appendSection anyRunState appendSection)

/-- CLEAR_SECTIONS (R102). -/
def execClearSections (s : State) : Host.Outcome State Fault Refusal :=
  .next (s.runCommand .clearSections anyRunState clearSections)

/-- READ_SECTION (R102). -/
def execReadSection (s : State) : Host.Outcome State Fault Refusal :=
  .next (s.runCommand .readSection anyRunState readSection)

/-! ### Retirement and lookup (R100, R101) -/

/-- R100: a head entry that lies 2,000 m or more behind L. -/
def SectionEntry.retired (x : SectionEntry) (position : Int) : Bool := decide (x.finish + Config.retireMm ≤ position)

/-- R100: retirement at a sample. -/
def Loc.retire (l : Loc) (position : Int) : Loc :=
  let kept := l.sections.dropWhile (fun x => x.retired position)
  { l with sections := kept, cursor := l.cursor.map (· - (l.sections.length - kept.length)) }

/-- R101, steps 1 and 2: where the scan stops. -/
def Loc.scan (l : Loc) (position : Int) : Nat :=
  l.cursor.getD 0 + ((l.sections.drop (l.cursor.getD 0)).takeWhile (fun x => decide (x.finish ≤ position))).length

/-- R101: the section that contains L, if the entry at the cursor does. -/
def Loc.sectionAt (l : Loc) (position : Int) : Option SectionEntry :=
  match l.sections[l.scan position]? with
  | some x => if x.start ≤ position then some x else none
  | none => none

/-- R101: the lookup: LOC with the cursor where the scan stopped, and the section found. -/
def Loc.lookup (l : Loc) (position : Int) : Loc × Option SectionEntry :=
  ({ l with cursor := some (l.scan position) }, l.sectionAt position)

/-! ### A sample at LOC (R86, R87) -/

/-- R86: the located position of a sample. -/
def Loc.locate (l : Loc) (x : Sample) : Int := clampPosition (((x.point / 1000 : Nat) : Int) + l.offset)

/-- R86, R87: the sample with its position and attributes, `found` being the section the lookup found. -/
def Loc.attributed (l : Loc) (defaultBand : Fin 5) (x : Sample) (found : Option SectionEntry) : LocatedSample :=
  { sample := x
    position := l.locate x
    unlocated := !l.located
    band := (found.map SectionEntry.band).getD defaultBand
    suppress := (found.map SectionEntry.suppress).getD 0
    cant := found.bind SectionEntry.cant
    epoch := l.epoch }

/-- R86, R87: LOC takes a sample: retirement and lookup while located, default attributes otherwise. -/
def Loc.takeSample (l : Loc) (defaultBand : Fin 5) (x : Sample) : Loc × LocatedSample :=
  if l.located then
    let r := (l.retire (l.locate x)).lookup (l.locate x)
    (r.1, l.attributed defaultBand x r.2)
  else (l, l.attributed defaultBand x none)

/-- R85: LOC takes the next item of ODO's when MSE has taken the last sample or gap notice LOC handed on. -/
def State.locItem (s : State) : Option OdoItem :=
  match s.links.locToMse with
  | none => s.links.odoToLoc.head?
  | some _ => none

/-- R85: the item leaves ODO's hand-over. -/
def State.dropLocItem (s : State) : State := s.withLinks { s.links with odoToLoc := s.links.odoToLoc.tail }

/-- R85, R86: a sample at LOC. -/
def State.locSample (s : State) : State :=
  match s.locItem with
  | some (.sample x) =>
    if s.keeps x.run then
      let r := s.loc.takeSample s.cmu.config.defaultBand x
      (s.dropLocItem.withLoc r.1).withLinks
        { s.links with odoToLoc := s.links.odoToLoc.tail, locToMse := some (.sample r.2) }
    else s.dropLocItem
  | _ => s

/-- LOC_SAMPLE (R86, R87, R100, R101). -/
def execLocSample (s : State) : Host.Outcome State Fault Refusal := .next s.locSample

/-- R85: a gap notice at LOC. -/
def State.locGap (s : State) : State :=
  match s.locItem with
  | some (.gap run) =>
    if s.keeps run then
      s.withLinks { s.links with odoToLoc := s.links.odoToLoc.tail, locToMse := some (.gap run) }
    else s.dropLocItem
  | _ => s

/-- LOC_GAP_NOTICE (R85). -/
def execLocGapNotice (s : State) : Host.Outcome State Fault Refusal := .next s.locGap

/-! ### A mark at LOC (R93, R94) -/

/-- R93: the hand-off is held off. -/
def Loc.heldOff (l : Loc) (q : Nat) (m : Int) : Bool :=
  match l.holdoff with
  | none => false
  | some h => h.id == q && decide (m - h.measured ≤ Config.holdoffMm)

/-- R94, step 2: δ of a mark. -/
def Loc.markDelta (l : Loc) (e : MarkEntry) (m : Int) : Int := e.position - (m + l.offset)

/-- R94, step 3: the mark is accepted. -/
def Loc.acceptsMark (l : Loc) (e : MarkEntry) (delta : Int) : Bool :=
  !l.located || e.window == 0 || decide (delta.natAbs ≤ e.window)

/-- R94, step 4: LOC after a mark is applied. -/
def Loc.applyMark (l : Loc) (q : Nat) (m delta : Int) : Loc :=
  let l1 := if l.located && delta == 0 then l else l.nextEpoch
  { l1 with offset := l.offset + delta, located := true, holdoff := some { id := q, measured := m } }

/-- R94: a mark hand-off that is not held off: LOC after it, and the kind of record emitted. -/
def Loc.judgeMark (l : Loc) (q : Nat) (m : Int) : Loc × LocationKind :=
  match markEntry? l.marks q with
  | none => (l, .markUnknown q)
  | some e =>
    let delta := l.markDelta e m
    if l.acceptsMark e delta then
      if inPositionRange (l.offset + delta) then (l.applyMark q m delta, .markApplied q e (clampPosition delta))
      else (l, .markRejected q e (clampPosition delta) .range)
    else (l, .markRejected q e (clampPosition delta) .window)

/-- R93, R94: a mark hand-off at LOC. -/
def State.markHandoff (s : State) : State :=
  match s.locItem with
  | some (.mark q m) =>
    let s1 := s.dropLocItem
    if s.loc.heldOff q m then s1
    else
      let r := s.loc.judgeMark q m
      (s1.withLoc r.1).emitLocation r.2 m
  | _ => s

/-- MARK_HANDOFF (R93, R94). -/
def execMarkHandoff (s : State) : Host.Outcome State Fault Refusal := .next s.markHandoff

/-! ### Loss of location and reverse suspension (R95, R96) -/

/-- R95: the location-lost notice. -/
def State.locationLost (s : State) : State :=
  (s.withLoc { s.loc with located := false, cursor := none }).emitLocation (.locationLost s.loc.located) s.odo.measured

/-- R96: LOC emits REVERSE_SUSPEND. -/
def State.reverseSuspendRecord (s : State) : State := s.emitLocation .reverseSuspend s.odo.measured

/-- R95: the notice goes to LOC when the rollback is above 0 (R81, R82). -/
def State.loseLocationIfRolledBack (s : State) : State := if 0 < s.odo.r then s.locationLost else s

end Sys2Proof.Machine
end

