-- ==== Sys2Proof/Machine/Measures.lean ====
section
/-! DEFINITION. The Measure Engine (chapter 6): parameters, the sample history, row formation, the five measure kinds,
baselines and their halt, and the commands that write and read its tables. -/

namespace Sys2Proof.Machine

/-- A value limited to the range of parameters and measures (R108, R119). -/
def limitValue (x : Int) : Int := clamp x (-Config.valueMax) Config.valueMax

/-- R108, R119: a valid value, marked saturated when the limit changed it or when `saturated` already holds. -/
def limited (x : Int) (saturated : Bool) : Quantity :=
  { value := limitValue x, valid := true, saturated := saturated || limitValue x != x }

/-! ### Parameters (R108, R109) -/

/-- R108: the weighted sum of an entry's terms. -/
def weightedSum (ts : List Term) (cs : Vector Quantity 12) : Int :=
  (ts.map fun t => t.weight * (cs[t.channel]).value).sum

/-- R109: a term that makes the parameter invalid: its channel is invalid, or inertial in a LOW_SPEED sample. -/
def Term.invalidIn (t : Term) (table : Vector ChannelEntry 12) (x : Sample) : Bool :=
  !(x.channels[t.channel]).valid || ((table[t.channel]).inertial && x.lowSpeed)

/-- R108, R109: a parameter of a sample; `table` is the channel table whose inertial set CAL publishes (R48). -/
def ParameterEntry.compute (e : ParameterEntry) (table : Vector ChannelEntry 12) (x : Sample) : Quantity :=
  if e.terms.isEmpty || e.terms.any (fun t => t.invalidIn table x) then .invalid
  else
    limited (nearest (weightedSum e.terms x.channels) 256 + e.k)
      (e.terms.any fun t => (x.channels[t.channel]).saturated)

/-! ### The sample history (R110, R111) -/

/-- R110: the number of the slot for an index. -/
def slotNumber (i : Nat) : Fin 128 := Fin.ofNat 128 i

/-- R110: the slot MSE uses for index `j`: present, and holding `j`; an index below 0 has no sample. -/
def Mse.slotAt (x : Mse) (j : Int) : Option Slot :=
  if j < 0 then none
  else
    match x.history[slotNumber j.toNat] with
    | none => none
    | some t => if t.index.toNat = j.toNat then some t else none

/-- R111, steps 1 and 2: the slot written for a sample. -/
def Mse.slotOf (x : Mse) (table : Vector ChannelEntry 12) (y : LocatedSample) : Slot :=
  { index := y.sample.index, position := y.position, unlocated := y.unlocated, lowSpeed := y.sample.lowSpeed,
    seqGap := y.sample.seqGap, speed := y.sample.speed, band := y.band, suppress := y.suppress, cant := y.cant,
    epoch := y.epoch, parameters := Vector.ofFn fun i : Fin 10 => (x.parameters[i]).compute table y.sample }

/-- R111, steps 1 to 3: MSE with a sample written. -/
def Mse.writeSample (x : Mse) (table : Vector ChannelEntry 12) (y : LocatedSample) : Mse :=
  { x with
    history := x.history.set (slotNumber y.sample.index.toNat).val (some (x.slotOf table y))
    newest := some y.sample.index }

/-- R112: every slot and the newest index absent, every baseline unseeded. -/
def Mse.clear (x : Mse) : Mse :=
  { x with history := Vector.replicate 128 none, newest := none, baselines := Vector.replicate 16 none }

/-! ### Measures (R119 to R124) -/

/-- R119: parameter `p` in the slot for index `j`, when the slot is there and the parameter is valid in it. -/
def Mse.read (x : Mse) (p : Fin 10) (j : Int) : Option Quantity :=
  match x.slotAt j with
  | none => none
  | some t => if (t.parameters[p]).valid then some (t.parameters[p]) else none

/-- R121: a CHORD measure. -/
def Mse.chord (x : Mse) (p : Fin 10) (l : Nat) (o : Int) : Quantity :=
  match x.read p (o - (l / 2 : Nat)), x.read p o, x.read p (o + (l / 2 : Nat)) with
  | some a, some q, some b =>
    limited (nearest (2 * q.value - b.value - a.value) 2) (a.saturated || q.saturated || b.saturated)
  | _, _, _ => .invalid

/-- R122: a TWIST measure. -/
def Mse.twist (x : Mse) (p : Fin 10) (b : Nat) (o : Int) : Quantity :=
  match x.read p (o - (b / 2 : Nat)), x.read p (o + (b / 2 : Nat)) with
  | some a, some q => limited (q.value - a.value) (a.saturated || q.saturated)
  | _, _ => .invalid

/-- R123, R124: a deviation from a reference; with no reference, the row seeds the baseline and the measure is 0. -/
def Mse.deviation (x : Mse) (p : Fin 10) (reference : Option Int) (o : Int) : Quantity :=
  match x.read p o with
  | none => .invalid
  | some q => limited (q.value - reference.getD q.value) q.saturated

/-- R119 to R124: measure `m` for output index `o`, `cant` being the section cant of slot `o`. -/
def Mse.measure (x : Mse) (m : Fin 16) (o : Int) (cant : Option Int) : Quantity :=
  match x.measures[m] with
  | .disabled => .invalid
  | .direct p => (x.read p o).getD .invalid
  | .chord p l => x.chord p l o
  | .twist p b => x.twist p b o
  | .deviation p _ _ => x.deviation p (x.baselines[m]) o
  | .cantDeviation p _ _ => x.deviation p (cant.or (x.baselines[m])) o

/-- R124: the measure is of kind CANT_DEVIATION. -/
def MeasureEntry.isCantDeviation : MeasureEntry → Bool
  | .cantDeviation .. => true
  | _ => false

/-- R116: the halt group of a measure that has a baseline. -/
def MeasureEntry.haltGroup? : MeasureEntry → Option Nat
  | .deviation _ _ g => some g
  | .cantDeviation _ _ g => some g
  | _ => none

/-- R126: a mode that halts the baselines of its group. -/
def DetectorMode.halts : DetectorMode → Bool
  | .active | .latched => true
  | .disabled | .quiet => false

/-- R126: halt group `g` is halted by the detector modes as they stand. -/
def Mse.halted (x : Mse) (detectors : Vector Detector 16) (g : Nat) : Bool :=
  g != 0 && (List.finRange 16).any fun m =>
    (x.measures[m]).haltGroup? == some g && ((detectors[m]).mode).halts

/-- R125: a baseline after a row. -/
def nextBaseline (b : Option Int) (p : Option Quantity) (beta : Nat) (halted : Bool) : Option Int :=
  match b, p with
  | none, some q => some q.value
  | some v, some q => if halted then some v else some (v + trunc (q.value - v) ((2 ^ beta : Nat) : Int))
  | b, none => b

/-- R125: the baseline of measure `m` after the row for output index `o`. -/
def Mse.baselineAfter (x : Mse) (detectors : Vector Detector 16) (m : Fin 16) (o : Int) : Option Int :=
  match x.measures[m] with
  | .deviation p beta g => nextBaseline (x.baselines[m]) (x.read p o) beta (x.halted detectors g)
  | .cantDeviation p beta g => nextBaseline (x.baselines[m]) (x.read p o) beta (x.halted detectors g)
  | _ => x.baselines[m]

/-! ### Rows (R113 to R115) -/

/-- R115, R124: the row for slot `t`. -/
def Mse.rowOf (x : Mse) (run : BitVec 8) (t : Slot) : Row :=
  { run := run, index := t.index, position := t.position, unlocated := t.unlocated, lowSpeed := t.lowSpeed,
    seqGap := t.seqGap, speed := t.speed, band := t.band, suppress := t.suppress, epoch := t.epoch
    cantTable := t.cant.isSome && x.measures.toList.any MeasureEntry.isCantDeviation
    measures := Vector.ofFn fun m : Fin 16 => x.measure m t.index.toNat t.cant }

/-- R113: the slot of the output index of a sample event, when a row is formed. -/
def Mse.outputSlot (x : Mse) (i : Quad) (alignDelay : Nat) : Option Slot := x.slotAt ((i.toNat : Int) - (alignDelay : Int))

/-- R125: MSE with the baselines updated for a row. -/
def Mse.updateBaselines (x : Mse) (detectors : Vector Detector 16) (o : Int) : Mse :=
  { x with baselines := Vector.ofFn fun m : Fin 16 => x.baselineAfter detectors m o }

/-- R111: MSE after a sample event, and the row it forms, if it forms one. -/
def Mse.takeSample (x : Mse) (table : Vector ChannelEntry 12) (detectors : Vector Detector 16) (alignDelay : Nat)
    (y : LocatedSample) : Mse × Option Row :=
  let x1 := x.writeSample table y
  match x1.outputSlot y.sample.index alignDelay with
  | none => (x1, none)
  | some t => (x1.updateBaselines detectors t.index.toNat, some (x1.rowOf y.sample.run t))

/-! ### The events of MSE (R105, R111, R112) -/

/-- Whether an item handed on is a row. -/
def RowItem.isRow : RowItem → Bool
  | .row _ => true
  | .gap _ => false

/-- R105: both EXD and STU have taken the last row that MSE handed on. -/
def Links.rowsTaken (l : Links) : Bool := !l.mseToExd.any RowItem.isRow && !l.mseToStu.any RowItem.isRow

/-- R105: the item MSE takes next. -/
def State.mseItem (s : State) : Option MseItem := if s.links.rowsTaken then s.links.locToMse else none

/-- R111, R115: an item handed to EXD, STU and LTX. -/
def Links.handOn (l : Links) (x : RowItem) : Links :=
  { l with mseToExd := l.mseToExd ++ [x], mseToStu := l.mseToStu ++ [x], mseToLtx := l.mseToLtx ++ [x] }

/-- The hand-over from LOC is empty once MSE has taken the item. -/
def Links.takenByMse (l : Links) : Links := { l with locToMse := .none }

/-- R111: the sample event. -/
def State.sampleEvent (s : State) : State :=
  match s.mseItem with
  | some (.sample y) =>
    let s1 := s.withLinks s.links.takenByMse
    if s.keeps y.sample.run then
      let r := s.mse.takeSample s.cal.channels s.exd.detectors s.cmu.config.alignDelay y
      match r.2 with
      | none => s1.withMse r.1
      | some row => (s1.withMse r.1).withLinks (s.links.takenByMse.handOn (.row row))
    else s1
  | _ => s

/-- SAMPLE_EVENT (R108 to R111, R113 to R126). -/
def execSampleEvent (s : State) : Host.Outcome State Fault Refusal := .next s.sampleEvent

/-- R112: the gap event. -/
def State.gapEvent (s : State) : State :=
  match s.mseItem with
  | some (.gap run) =>
    if s.keeps run then (s.withMse s.mse.clear).withLinks (s.links.takenByMse.handOn (.gap run))
    else s.withLinks s.links.takenByMse
  | _ => s

/-- GAP_EVENT (R112). -/
def execGapEvent (s : State) : Host.Outcome State Fault Refusal := .next s.gapEvent

/-! ### WRITE PARAMETER and READ PARAMETER (R106, R107) -/

/-- R106: a term record of a WRITE PARAMETER, if its channel is in range. -/
def termAt? (a : List Octet) (k : Nat) : Option Term :=
  if h : field a (2 + 3 * k) 1 < 12 then some { channel := ⟨field a (2 + 3 * k) 1, h⟩, weight := signedField a (3 + 3 * k) 2 }
  else none

/-- R106: the parameter entry a WRITE PARAMETER carries, if its fields are in range. -/
def parameterEntry? (a : List Octet) : Option ParameterEntry :=
  if 3 < field a 1 1 then none
  else
    match (List.range (field a 1 1)).mapM (termAt? a) with
    | none => none
    | some ts =>
      if -Config.valueMax ≤ signedField a 11 4 ∧ signedField a 11 4 ≤ Config.valueMax then
        some { terms := ts, k := signedField a 11 4 }
      else none

/-- R106: WRITE PARAMETER at MSE. -/
def writeParameter (e : CommandEntry) (s : State) : State × Reply :=
  if h : field e.args 0 1 < 10 then
    match parameterEntry? e.args with
    | none => (s, .refuse .badArg)
    | some p => (s.withMse { s.mse with parameters := s.mse.parameters.set (field e.args 0 1) p h }, .done [])
  else (s, .refuse .badArg)

/-- WRITE_PARAMETER (R106). -/
def execWriteParameter (s : State) : Host.Outcome State Fault Refusal :=
  .next (s.runCommand .writeParameter onlyStopped writeParameter)

/-- R107: the parameter's value in the newest history slot; absent when the newest index is. -/
def Mse.lastParameter (x : Mse) (p : Fin 10) : Option Quantity :=
  match x.newest with
  | none => none
  | some i => (x.slotAt i.toNat).map fun t => t.parameters[p]

/-- R107, R196: the last parameter value after its presence octet, as zeros when it is absent. -/
def parameterValueOctets : Option Quantity → List Octet
  | none => [yesNo false] ++ octetsOf 4 0 ++ [yesNo false, yesNo false]
  | some q => [yesNo true] ++ octetsOf 4 q.value ++ [yesNo q.valid, yesNo q.saturated]

/-- R107: the results of READ PARAMETER. -/
def Mse.parameterResults (x : Mse) (p : Fin 10) : List Octet :=
  octetsOf 1 (x.parameters[p]).terms.length ++
    (x.parameters[p]).terms.flatMap (fun t => octetsOf 1 t.channel.val ++ octetsOf 2 t.weight) ++
    octetsOf 4 (x.parameters[p]).k ++ parameterValueOctets (x.lastParameter p)

/-- R107: READ PARAMETER at MSE. -/
def readParameter (e : CommandEntry) (s : State) : State × Reply :=
  if h : field e.args 0 1 < 10 then (s, .done (s.mse.parameterResults ⟨field e.args 0 1, h⟩)) else (s, .refuse .badArg)

/-- READ_PARAMETER (R107). -/
def execReadParameter (s : State) : Host.Outcome State Fault Refusal :=
  .next (s.runCommand .readParameter anyRunState readParameter)

/-! ### WRITE MEASURE, READ MEASURE and REBASE (R117, R118, R127) -/

/-- R117, checks 4 and 5: the length field of a CHORD or TWIST measure. -/
def lengthAllowed (l alignDelay : Nat) : Bool :=
  l % 2 == 0 && decide (2 ≤ l) && decide (l ≤ 120) && decide (l / 2 ≤ alignDelay)

/-- R117, check 6: β and the halt group of a measure with a baseline. -/
def baselineAllowed (beta haltGroup : Nat) : Bool := decide (4 ≤ beta) && decide (beta ≤ 15) && decide (haltGroup ≤ 4)

/-- R117: the measure entry a WRITE MEASURE carries, if its checks pass. -/
def measureEntry? (a : List Octet) (alignDelay : Nat) : Option MeasureEntry :=
  if field a 1 1 = 0 then some .disabled
  else if h : field a 2 1 < 10 then
    let p : Fin 10 := ⟨field a 2 1, h⟩
    match field a 1 1 with
    | 1 => some (.direct p)
    | 2 => if lengthAllowed (field a 3 1) alignDelay then some (.chord p (field a 3 1)) else none
    | 3 => if lengthAllowed (field a 3 1) alignDelay then some (.twist p (field a 3 1)) else none
    | 4 => if baselineAllowed (field a 4 1) (field a 5 1) then some (.deviation p (field a 4 1) (field a 5 1)) else none
    | 5 => if baselineAllowed (field a 4 1) (field a 5 1) then some (.cantDeviation p (field a 4 1) (field a 5 1)) else none
    | _ => none
  else none

/-- R117: WRITE MEASURE at MSE. -/
def writeMeasure (e : CommandEntry) (s : State) : State × Reply :=
  if h : field e.args 0 1 < 16 then
    match measureEntry? e.args s.cmu.config.alignDelay with
    | none => (s, .refuse .badArg)
    | some m =>
      (s.withMse
        { s.mse with
          measures := s.mse.measures.set (field e.args 0 1) m h
          baselines := s.mse.baselines.set (field e.args 0 1) none h },
       .done [])
  else (s, .refuse .badArg)

/-- WRITE_MEASURE (R117). -/
def execWriteMeasure (s : State) : Host.Outcome State Fault Refusal :=
  .next (s.runCommand .writeMeasure onlyStopped writeMeasure)

/-- R118, R196: the fields of a measure entry: kind, parameter, length, β and halt group, 0 where unused. -/
def MeasureEntry.octets : MeasureEntry → List Octet
  | .disabled => octetsOf 1 0 ++ octetsOf 1 0 ++ octetsOf 1 0 ++ octetsOf 1 0 ++ octetsOf 1 0
  | .direct p => octetsOf 1 1 ++ octetsOf 1 p.val ++ octetsOf 1 0 ++ octetsOf 1 0 ++ octetsOf 1 0
  | .chord p l => octetsOf 1 2 ++ octetsOf 1 p.val ++ octetsOf 1 l ++ octetsOf 1 0 ++ octetsOf 1 0
  | .twist p b => octetsOf 1 3 ++ octetsOf 1 p.val ++ octetsOf 1 b ++ octetsOf 1 0 ++ octetsOf 1 0
  | .deviation p beta g => octetsOf 1 4 ++ octetsOf 1 p.val ++ octetsOf 1 0 ++ octetsOf 1 beta ++ octetsOf 1 g
  | .cantDeviation p beta g => octetsOf 1 5 ++ octetsOf 1 p.val ++ octetsOf 1 0 ++ octetsOf 1 beta ++ octetsOf 1 g

/-- R118, R196: the baseline's state after its presence octet, for the kinds that have one. -/
def Mse.baselineOctets (x : Mse) (m : Fin 16) : List Octet :=
  match (x.measures[m]).haltGroup? with
  | none => []
  | some _ => [yesNo (x.baselines[m]).isSome] ++ octetsOf 4 ((x.baselines[m]).getD 0)

/-- R118: READ MEASURE at MSE. -/
def readMeasure (e : CommandEntry) (s : State) : State × Reply :=
  if h : field e.args 0 1 < 16 then
    (s, .done ((s.mse.measures[field e.args 0 1]).octets ++ s.mse.baselineOctets ⟨field e.args 0 1, h⟩))
  else (s, .refuse .badArg)

/-- READ_MEASURE (R118). -/
def execReadMeasure (s : State) : Host.Outcome State Fault Refusal :=
  .next (s.runCommand .readMeasure anyRunState readMeasure)

/-- R127: the measures of a mask whose baseline REBASE unseeds: those of kind DEVIATION or CANT_DEVIATION. Bit n of the mask,
bit 0 the least significant, names Mn (assumption log 31: DESIGN CHOICE). -/
def Mse.rebased (x : Mse) (mask : Half) (m : Fin 16) : Bool := mask.getLsbD m.val && (x.measures[m]).haltGroup?.isSome

/-- A set of measures as a mask: bit n, bit 0 the least significant, for Mn (assumption log 31: DESIGN CHOICE). -/
def measureMask (f : Fin 16 → Bool) : Half :=
  (List.finRange 16).foldl (fun a m => if f m then a ||| BitVec.twoPow 16 m.val else a) 0

/-- R127: REBASE at MSE. -/
def rebase (e : CommandEntry) (s : State) : State × Reply :=
  let mask : Half := BitVec.ofNat 16 (field e.args 0 2)
  (s.withMse
    { s.mse with
      baselines := Vector.ofFn fun m : Fin 16 => if s.mse.rebased mask m then none else s.mse.baselines[m] },
   .done (octetsOf 2 (measureMask (s.mse.rebased mask)).toNat))

/-- REBASE (R127). -/
def execRebase (s : State) : Host.Outcome State Fault Refusal := .next (s.runCommand .rebase anyRunState rebase)

end Sys2Proof.Machine
end

