-- ==== Sys2Proof/Machine/Flags.lean ====
section
/-! DEFINITION. The flags that travel with samples, rows and records, and the flags octets that carry them (R76, R196). -/

namespace Sys2Proof.Machine

/-- R76: SEQ_GAP of the samples between a base frame and a new frame. -/
def seqGapFlag (base new : CalFrame) : Bool :=
  !(new.sequence == base.sequence + 1) || base.overrun || new.overrun

/-- R63: the low-speed state after an update of the filtered speed. -/
def lowSpeedAfter (before : Bool) (minSpeed vf : Nat) : Bool :=
  if before then decide (vf < minSpeed + 20) else decide (vf < minSpeed)

/-- R196: octet 11 of a row: the band in bits 0 to 2, then UNLOCATED, LOW_SPEED, SEQ_GAP and CANT_TABLE. -/
def Row.flagsOctet (r : Row) : Octet :=
  BitVec.ofNat 8 (r.band.val + 8 * (r.unlocated.toNat + 2 * (r.lowSpeed.toNat + 2 * (r.seqGap.toNat + 2 * r.cantTable.toNat))))

/-- R196: octet 7 of an EXCEPTION payload. -/
def ExceptionRecord.flagsOctet (x : ExceptionRecord) : Octet :=
  Machine.flagsOctet [x.sat, x.invalidSeen, x.lowSpeed, x.corrected, x.alerted, x.alertLost, x.cyclic]

/-- R158, R196: octet 2 of an ALERT payload, bit 0 UNTRACKED. -/
def AlertRecord.flagsOctet (a : AlertRecord) : Octet := Machine.flagsOctet [a.context.isNone]

/-- R196: octet 1 of a LOCATION payload: located, was located, reason RANGE. -/
def LocationRecord.flagsOctet (r : LocationRecord) : Octet :=
  match r.kind with
  | .locationLost was => Machine.flagsOctet [r.located, was, false]
  | .markRejected _ _ _ .range => Machine.flagsOctet [r.located, false, true]
  | _ => Machine.flagsOctet [r.located, false, false]

/-- R183, R196: octet 5 of a SEGMENT payload. -/
def Segment.flagsOctet (g : Segment) : Octet :=
  Machine.flagsOctet [g.partSegment, g.corrected, g.truncated, g.frozen, g.unlocated]

/-- R196: the flags octet of a measure in a row: bit 0 valid, bit 1 saturated. -/
def Quantity.flagsOctet (q : Quantity) : Octet := Machine.flagsOctet [q.valid, q.saturated]

end Sys2Proof.Machine
end

