-- ==== Sys2Proof/Machine/Odometry.lean ====
section
/-! DEFINITION. The Odometry Unit (chapter 4): the frame event, step by step in the order of R57, the silence timer, and
what START and RESUME do to ODO. -/

namespace Sys2Proof.Machine

/-! ### Differences, speed, motion (R59 to R67) -/

/-- R59: the tachometer difference Δn, signed. -/
def tachDifference (base new : CalFrame) : Int := (new.tach - base.tach).toInt

/-- R59: the time difference Δt, unsigned. -/
def timeDifference (base new : CalFrame) : Nat := (new.timestamp - base.timestamp).toNat

/-- R59: the distance d of the frame, in µm. -/
def frameDistance (c : ConfigRecord) (base new : CalFrame) : Nat := (tachDifference base new).natAbs * c.pulseUm

/-- R60: the frame is a tachometer jump. -/
def isJump (c : ConfigRecord) (base new : CalFrame) : Bool := decide (Config.jumpLimitUm < frameDistance c base new)

/-- R61: the instant speed. -/
def instantSpeed (d dt : Nat) : Nat := min (nearest ((d * 36 : Nat) : Int) (dt : Int)).toNat 65535

/-- R62: the filtered speed after an update. -/
def filteredSpeed (beta vf v : Nat) : Nat := ((vf : Int) + trunc ((v : Int) - (vf : Int)) ((2 ^ beta : Nat) : Int)).toNat

/-- R61 to R63: step 4 of the frame event. -/
def Odo.stepSpeed (o : Odo) (c : ConfigRecord) (d dt : Nat) : Odo :=
  if dt = 0 then o
  else
    let vf := filteredSpeed c.speedBeta o.vf (instantSpeed d dt)
    { o with vf := vf, lowSpeed := lowSpeedAfter o.lowSpeed c.minSpeed vf }

/-- R65, R67: step 5 of the frame event. -/
def Odo.stepMotion (o : Odo) (dn : Int) (d : Nat) : Odo :=
  if dn < 0 then { o with r := min (o.r + d) Config.rollbackLimitUm }
  else if d ≤ o.r then { o with r := o.r - d }
  else { o with d := min (o.d + (d - o.r)) Config.odometerMax, r := 0 }

/-- R60 to R67: steps 3 to 5 of the frame event. A jump sets the tach-fault flag and, in MEASURING, gap-pending. -/
def Odo.stepFrame (o : Odo) (c : ConfigRecord) (measuring : Bool) (base new : CalFrame) : Odo :=
  if isJump c base new then { o with tachFault := true, gapPending := o.gapPending || measuring }
  else
    (o.stepSpeed c (frameDistance c base new) (timeDifference base new)).stepMotion
      (tachDifference base new) (frameDistance c base new)

/-- R66: the frame event sends CMU a reverse-limit request. -/
def Odo.reachesReverseLimit (o : Odo) (c : ConfigRecord) (measuring : Bool) (base new : CalFrame) : Bool :=
  measuring && !isJump c base new && decide (tachDifference base new < 0) &&
    decide (Config.rollbackLimitUm ≤ o.r + frameDistance c base new)

/-- R68: the mark hand-off of a frame, against the odometer as it stands. -/
def Odo.handMark (o : Odo) (new : CalFrame) : List OdoItem :=
  match new.markId with
  | none => []
  | some q => [.mark q o.measured]

/-! ### The sample grid (R69 to R77) -/

/-- R56: the grid step G, in µm. -/
def gridStep (c : ConfigRecord) : Nat := 1000 * c.spacingMm

/-- R70: k, the number of grid points that do not exceed D. -/
def Odo.crossings (o : Odo) (c : ConfigRecord) : Nat := if o.d < o.n then 0 else (o.d - o.n) / gridStep c + 1

/-- R71: the advance is a declared gap. -/
def Odo.gapCondition (o : Odo) (k : Nat) (base new : CalFrame) : Bool :=
  o.gapPending || o.silenceFlag || decide (Config.crossingsMax < k) || (o.tachFault && (base.overrun || new.overrun))

/-- R72: a declared gap. -/
def Odo.declareGap (o : Odo) (c : ConfigRecord) (k : Nat) : Odo :=
  { o with s := o.s + BitVec.ofNat 32 k, n := o.n + k * gridStep c, gapPending := false, silenceFlag := false }

/-- R75: a channel interpolated at a grid point. -/
def interpolate (a b : Quantity) (point dOld d : Nat) : Quantity :=
  if a.valid && b.valid then
    { value := a.value + nearest ((b.value - a.value) * ((point : Int) - (dOld : Int))) ((d : Int) - (dOld : Int)),
      valid := true, saturated := a.saturated || b.saturated }
  else { value := 0, valid := false, saturated := a.saturated || b.saturated }

/-- R75, R76: the sample of the `j`-th grid point reached, `o` being ODO after step 5. -/
def Odo.sampleAt (o : Odo) (c : ConfigRecord) (run : BitVec 8) (dOld : Nat) (base new : CalFrame) (j : Nat) : Sample :=
  { run := run
    index := o.s + BitVec.ofNat 32 j
    point := o.n + j * gridStep c
    lowSpeed := o.lowSpeed
    seqGap := seqGapFlag base new
    speed := o.vf
    channels := Vector.ofFn fun i : Fin 12 =>
      interpolate (base.channels[i]) (new.channels[i]) (o.n + j * gridStep c) dOld o.d }

/-- R77: the sample index and the next sample point after k interpolated samples. -/
def Odo.passSamples (o : Odo) (c : ConfigRecord) (k : Nat) : Odo :=
  { o with s := o.s + BitVec.ofNat 32 k, n := o.n + k * gridStep c }

/-- R69 to R77: step 7 of the frame event; `dOld` is the odometer before the frame's advance. -/
def Odo.stepGrid (o : Odo) (c : ConfigRecord) (measuring : Bool) (run : BitVec 8) (dOld : Nat) (base new : CalFrame) :
    Odo × List OdoItem :=
  if measuring && decide (dOld < o.d) then
    let k := o.crossings c
    if o.gapCondition k base new then (o.declareGap c k, [.gap run])
    else (o.passSamples c k, (List.range k).map fun j => .sample (o.sampleAt c run dOld base new j))
  else (o, [])

/-- R78, R80: step 8 of the frame event. -/
def Odo.rebase (o : Odo) (c : ConfigRecord) (measuring : Bool) (base new : CalFrame) : Odo :=
  { o with base := some new, tachFault := isJump c base new, silenceFlag := o.silenceFlag && measuring }

/-! ### The frame event (R57, R58) -/

/-- R57, R58: the frame event at ODO: its state after the event, and what it hands to LOC, in order. -/
def Odo.takeFrame (o : Odo) (c : ConfigRecord) (measuring : Bool) (run : BitVec 8) (new : CalFrame) :
    Odo × List OdoItem :=
  let o1 := { o with silenceTimer := some c.silenceMs }
  match o1.base with
  | none => ({ o1 with base := some new }, o1.handMark new)
  | some base =>
    let o2 := o1.stepFrame c measuring base new
    let g := o2.stepGrid c measuring run o.d base new
    (g.1.rebase c measuring base new, o2.handMark new ++ g.2)

/-- R66: the reverse-limit request waiting for CMU after a frame event; a new request replaces one that waits. -/
def Odo.requestAfter (o : Odo) (c : ConfigRecord) (measuring : Bool) (run : BitVec 8) (new : CalFrame)
    (waiting : Option (BitVec 8)) : Option (BitVec 8) :=
  match o.base with
  | none => waiting
  | some base => if o.reachesReverseLimit c measuring base new then some run else waiting

/-- R57: the conditions of the frame event: a held record, and everything of the previous frame event taken by LOC. -/
def State.recordToTake (s : State) : Option CalFrame := if s.links.odoToLoc = [] then s.cal.held else none

/-- R57: the frame event. -/
def State.frameEvent (s : State) : State :=
  match s.recordToTake with
  | none => s
  | some new =>
    let g := s.odo.takeFrame s.cmu.config s.measuring s.cmu.runNumber new
    ((s.withCal { s.cal with held := none }).withOdo g.1).withLinks
      { s.links with
        odoToLoc := g.2
        reverseRequest :=
          s.odo.requestAfter s.cmu.config s.measuring s.cmu.runNumber new s.links.reverseRequest }

/-- FRAME_EVENT (R57 to R78, R80). -/
def execFrameEvent (s : State) : Host.Outcome State Fault Refusal := .next s.frameEvent

/-! ### The silence timer, START and RESUME at ODO (R79, R81, R82) -/

/-- R79: the silence timer, if it is running, expires. -/
def Odo.expireSilence (o : Odo) (measuring : Bool) : Odo :=
  match o.silenceTimer with
  | none => o
  | some _ => { o with silenceTimer := none, silenceFlag := true, gapPending := o.gapPending || measuring }

/-- SILENCE_EXPIRY (R79). -/
def execSilenceExpiry (s : State) : Host.Outcome State Fault Refusal :=
  .next (s.withOdo (s.odo.expireSilence s.measuring))

/-- R81: the start notice at ODO. -/
def Odo.startNotice (o : Odo) (c : ConfigRecord) : Odo :=
  { o with r := 0, n := o.d + gridStep c, s := 0, gapPending := false }

/-- R82: the resume notice at ODO. -/
def Odo.resumeNotice (o : Odo) : Odo := { o with r := 0, gapPending := true }

end Sys2Proof.Machine
end

