-- ==== Sys2Proof/Machine/Statistics.lean ====
section
/-! DEFINITION. The Statistics Unit (chapter 9): segments, statistic slots and their accumulators, results, and the slot,
freeze and clear commands. -/

namespace Sys2Proof.Machine

/-! ### Source values (R177) -/

/-- R177: the source value a slot takes from a row, when it is valid; `openCount` is the count EXT published. -/
def SlotSource.value? (x : SlotSource) (r : Row) (openCount : Nat) : Option Int :=
  match x with
  | .measure m => if (r.measures[m]).valid then some (r.measures[m]).value else none
  | .openCount => some openCount
  | .speed => some r.speed

/-- R177: the value with which a row counts toward a slot, if it does. -/
def SlotEntry.counts (e : SlotEntry) (r : Row) (openCount : Nat) : Option Int :=
  if e.enabled && !(r.lowSpeed && e.excludeLowSpeed) then e.source.value? r openCount else none

/-! ### Counting a row (R178, R179) -/

/-- R179: a counted value qualifies. -/
def SlotEntry.qualifies (e : SlotEntry) (x : Int) : Bool :=
  if e.invert then decide (x.natAbs < e.threshold) else decide (e.threshold ≤ x.natAbs)

/-- R179: a counted row adds 1 to count. -/
def SlotEntry.countsOne (e : SlotEntry) (edge : Bool) (x : Int) : Bool :=
  match e.function with
  | .above => e.qualifies x
  | .starts => e.qualifies x && !edge
  | .sigma | .peak | .sum => false

/-- R178: the peak after a counted row. -/
def peakAfter (p : Option SlotPeak) (x : Int) (row : RowRef) : SlotPeak :=
  match p with
  | some q => if q.value.natAbs < x.natAbs then { value := x, row := row } else q
  | none => { value := x, row := row }

/-- R178: the count after a row that adds `k` to it, before its limit. -/
def Accumulators.exactCount (a : Accumulators) (k : Bool) : Nat := a.count + k.toNat

/-- R178: an update that an accumulator cannot hold. -/
def Accumulators.overflows (a : Accumulators) (x : Int) (k : Bool) : Bool :=
  decide (Config.wideCountMax < a.n + 1) || decide (a.sum + x < Config.sumMin) || decide (Config.sumMax < a.sum + x) ||
    decide (Config.sumSqMax < a.sumSq + x.natAbs * x.natAbs) || decide (Config.wideCountMax < a.exactCount k)

/-- R178: the accumulators after a counted row of value `x`. -/
def Accumulators.add (a : Accumulators) (x : Int) (row : RowRef) (k : Bool) : Accumulators :=
  { n := min (a.n + 1) Config.wideCountMax
    sum := clamp (a.sum + x) Config.sumMin Config.sumMax
    sumSq := min (a.sumSq + x.natAbs * x.natAbs) Config.sumSqMax
    count := min (a.exactCount k) Config.wideCountMax
    peak := some (peakAfter a.peak x row)
    sat := a.sat || a.overflows x k }

/-- R115: the place of a row. -/
def Row.ref (r : Row) : RowRef := { index := r.index, position := r.position }

/-- R178, R179: the accumulators of slot `i` after a row that is not withheld. -/
def Stu.accumulatorsAfter (x : Stu) (r : Row) (openCount : Nat) (i : Fin 8) : Accumulators :=
  match (x.slots[i]).counts r openCount with
  | none => x.accumulators[i]
  | some v => (x.accumulators[i]).add v r.ref ((x.slots[i]).countsOne (x.edges[i]) v)

/-- R179: the edge flag of slot `i` after a row that is not withheld. -/
def Stu.edgeAfter (x : Stu) (r : Row) (openCount : Nat) (i : Fin 8) : Bool :=
  match (x.slots[i]).counts r openCount with
  | none => x.edges[i]
  | some v => (x.slots[i]).qualifies v

/-- R178: a slot that makes the row an invalid one: enabled, with a measure source invalid in the row. -/
def SlotEntry.findsInvalid (e : SlotEntry) (r : Row) : Bool :=
  match e.source with
  | .measure m => e.enabled && !(r.measures[m]).valid
  | .openCount | .speed => false

/-- R178: the segment after a row that is not withheld: its invalid-row total. -/
def Stu.segmentCounted (x : Stu) (r : Row) : Option Segment :=
  x.segment.map fun g =>
    if x.slots.toList.any (fun e => e.findsInvalid r) then
      { g with invalidRows := countUp Config.wideCountMax g.invalidRows }
    else g

/-- R178, R180: a row counted into the slots, unless the frozen flag withholds it. -/
def Stu.countRow (x : Stu) (r : Row) (openCount : Nat) : Stu :=
  if x.frozen then x
  else
    { x with
      accumulators := Vector.ofFn fun i : Fin 8 => x.accumulatorsAfter r openCount i
      edges := Vector.ofFn fun i : Fin 8 => x.edgeAfter r openCount i
      segment := x.segmentCounted r }

/-! ### Results (R182, R183) -/

/-- R182: the status of a slot's result. -/
def Accumulators.status (a : Accumulators) : SlotStatus := if a.n = 0 then .empty else if a.sat then .sat else .ok

/-- R182: σ. -/
def Accumulators.sigma (a : Accumulators) : Int :=
  ((isqrt ((a.n : Int) * (a.sumSq : Int) - a.sum * a.sum).toNat / a.n : Nat) : Int)

/-- R182: the result of a slot of the given function. -/
def Accumulators.result (a : Accumulators) (f : SlotFunction) : Option Int :=
  match f with
  | .sigma => if a.status = .ok then some a.sigma else none
  | .above | .starts => some a.count
  | .peak => if a.status = .empty then none else a.peak.map SlotPeak.value
  | .sum => some a.sum

/-- R182: the aux of a slot of the given function. -/
def Accumulators.aux (a : Accumulators) (f : SlotFunction) : Option Int :=
  match f with
  | .sigma => if a.status = .ok then some (nearest a.sum a.n) else none
  | .peak => if a.status = .empty then none else a.peak.map fun p => p.row.position
  | .above | .starts | .sum => none

/-- R182, R183: the entry of slot `i` in a record closed now. -/
def Stu.slotResult (x : Stu) (i : Fin 8) : SlotResult :=
  let e := x.slots[i]
  let a := x.accumulators[i]
  { slot := i, function := e.function, source := e.source, status := a.status, n := a.n, result := a.result e.function,
    aux := a.aux e.function }

/-- R183: the record of a closed segment; LTX fills in `lostBefore`. -/
def Stu.segmentRecord (x : Stu) (g : Segment) : SegmentRecord :=
  { segment := g, lostBefore := 0,
    entries := ((List.finRange 8).filter fun i => (x.slots[i]).enabled).map x.slotResult }

/-! ### Segments (R172 to R175) -/

/-- R172: the segment number of a located position. -/
def segmentNumber (c : ConfigRecord) (position : Int) : Int := position / ((c.segmentM * 1000 : Nat) : Int)

/-- R170: every slot's accumulators cleared. -/
def Stu.clearAccumulators (x : Stu) : Stu := { x with accumulators := Vector.replicate 8 .zero }

/-- R170: every slot's edge flag cleared. -/
def Stu.clearEdges (x : Stu) : Stu := { x with edges := Vector.replicate 8 false }

/-- R173: the segment a row opens. -/
def Stu.newSegment (x : Stu) (c : ConfigRecord) (r : Row) (correction : Bool) : Segment :=
  { number := segmentNumber c r.position, epoch := r.epoch, first := r.ref, last := r.ref, rowCount := 1, invalidRows := 0,
    partSegment := x.openAfterStart || correction, unlocated := r.unlocated, frozen := x.frozen, corrected := false,
    truncated := false }

/-- R173: a segment opened from a row. -/
def Stu.openSegment (x : Stu) (c : ConfigRecord) (r : Row) (correction : Bool) : Stu :=
  { x.clearAccumulators with segment := some (x.newSegment c r correction), openAfterStart := false }

/-- R172, R173: a row joins a segment. -/
def Segment.join (g : Segment) (r : Row) : Segment :=
  { g with last := r.ref, rowCount := countUp Config.wideCountMax g.rowCount, unlocated := g.unlocated || r.unlocated }

/-- R172, R174: the segment test of a row: STU after it, and the record of the segment it closed, if any. -/
def Stu.segmentTest (x : Stu) (c : ConfigRecord) (r : Row) : Stu × Option SegmentRecord :=
  match x.segment with
  | none => (x.openSegment c r false, none)
  | some g =>
    if g.epoch ≠ r.epoch then
      (x.openSegment c r true, some (x.segmentRecord { g with corrected := true }))
    else if g.number = segmentNumber c r.position then ({ x with segment := some (g.join r) }, none)
    else (x.openSegment c r false, some (x.segmentRecord g))

/-- R171, R174: STU after a row event, and the record placed. -/
def Stu.takeRow (x : Stu) (c : ConfigRecord) (r : Row) (openCount : Nat) : Stu × Option SegmentRecord :=
  let t := x.segmentTest c r
  (t.1.countRow r openCount, t.2)

/-- R183: a segment record, if there is one, is offered to the segment queue. -/
def State.placeSegment (s : State) (r : Option SegmentRecord) : State :=
  match r with
  | none => s
  | some x => s.withLtx (s.ltx.offerSegment x)

/-- R175: the stop notice at STU: a segment in progress is closed with TRUNCATED. -/
def Stu.stopNotice (x : Stu) : Stu × Option SegmentRecord :=
  match x.segment with
  | none => (x, none)
  | some g => ({ x with segment := none }, some (x.segmentRecord { g with truncated := true }))

/-- R171: the start notice at STU. -/
def Stu.startNotice (x : Stu) : Stu := { x.clearAccumulators.clearEdges with segment := none, openAfterStart := true }

/-- The head of the hand-over from MSE has been taken by STU. -/
def Links.takenByStu (l : Links) : Links := { l with mseToStu := l.mseToStu.tail }

/-- R171: STU can take the row at the head of its input. -/
def State.stuReady (s : State) (r : Row) : Bool := s.ext.openRow == some r.index || !s.keeps r.run

/-- R171, R172: the row event at STU. -/
def State.stuRow (s : State) : State :=
  match s.links.mseToStu.head? with
  | some (.row r) =>
    if s.stuReady r then
      let s1 := s.withLinks s.links.takenByStu
      if s.keeps r.run then
        let t := s.stu.takeRow s.cmu.config r s.ext.openCount
        (s1.withStu t.1).placeSegment t.2
      else s1
    else s
  | _ => s

/-- STU_ROW_EVENT (R171 to R174, R177 to R180, R182, R183). -/
def execStuRowEvent (s : State) : Host.Outcome State Fault Refusal := .next s.stuRow

/-- R175: a gap notice at STU. -/
def State.stuGap (s : State) : State :=
  match s.links.mseToStu.head? with
  | some (.gap run) =>
    let s1 := s.withLinks s.links.takenByStu
    if s.keeps run then s1.withStu s.stu.clearEdges else s1
  | _ => s

/-- STU_GAP_NOTICE (R171, R175, R179). -/
def execStuGapNotice (s : State) : Host.Outcome State Fault Refusal := .next s.stuGap

/-! ### Commands (R176, R180, R181) -/

/-- R176: the slot entry a WRITE SLOT carries, if its fields are in range. -/
def slotEntry? (a : List Octet) : Option SlotEntry :=
  match yesNo? (field a 1 1), slotSource? (field a 2 1), slotFunction? (field a 3 1), yesNo? (field a 8 1),
    yesNo? (field a 9 1) with
  | some enabled, some source, some function, some invert, some excludeLowSpeed =>
    if field a 4 4 ≤ 1000000 then
      some { enabled := enabled, source := source, function := function, threshold := field a 4 4, invert := invert,
             excludeLowSpeed := excludeLowSpeed }
    else none
  | _, _, _, _, _ => none

/-- R176: STU with one slot entry replaced, its accumulators and edge flag cleared. -/
def Stu.setSlot (x : Stu) (i : Fin 8) (e : SlotEntry) : Stu :=
  { x with
    slots := x.slots.set i.val e
    accumulators := x.accumulators.set i.val .zero
    edges := x.edges.set i.val false }

/-- R176: WRITE SLOT at STU. -/
def writeSlot (e : CommandEntry) (s : State) : State × Reply :=
  if h : field e.args 0 1 < 8 then
    match slotEntry? e.args with
    | none => (s, .refuse .badArg)
    | some x => (s.withStu (s.stu.setSlot ⟨field e.args 0 1, h⟩ x), .done [])
  else (s, .refuse .badArg)

/-- WRITE_SLOT (R176). -/
def execWriteSlot (s : State) : Host.Outcome State Fault Refusal := .next (s.runCommand .writeSlot onlyStopped writeSlot)

/-- R176, R196: a slot entry's fields. -/
def SlotEntry.octets (e : SlotEntry) : List Octet :=
  [yesNo e.enabled, e.source.octet, e.function.octet] ++ octetsOf 4 e.threshold ++ [yesNo e.invert, yesNo e.excludeLowSpeed]

/-- R176, R196: accumulators and SAT status; an absent peak is carried as 0 (assumption log 11). -/
def Accumulators.octets (a : Accumulators) : List Octet :=
  let p := a.peak.getD { value := 0, row := .zero }
  octetsOf 4 a.n ++ octetsOf 8 a.sum ++ octetsOf 8 a.sumSq ++ octetsOf 4 a.count ++ octetsOf 4 p.value ++
    octetsOf 4 p.row.index.toNat ++ octetsOf 4 p.row.position ++ [yesNo a.sat]

/-- R176: the results of READ SLOT. -/
def Stu.slotResults (x : Stu) (i : Fin 8) : List Octet :=
  (x.slots[i]).octets ++ (x.accumulators[i]).octets ++ [yesNo (x.edges[i])] ++ [(x.slotResult i).status.octet] ++
    octetsOf 8 ((x.slotResult i).result.getD 0)

/-- R176: READ SLOT at STU. -/
def readSlot (e : CommandEntry) (s : State) : State × Reply :=
  if h : field e.args 0 1 < 8 then (s, .done (s.stu.slotResults ⟨field e.args 0 1, h⟩)) else (s, .refuse .badArg)

/-- READ_SLOT (R176). -/
def execReadSlot (s : State) : Host.Outcome State Fault Refusal := .next (s.runCommand .readSlot anyRunState readSlot)

/-- R180: FREEZE sets the frozen flag and FROZEN on the segment in progress; with the flag already set it leaves STU. -/
def Stu.freeze (x : Stu) : Stu :=
  if x.frozen then x else { x with frozen := true, segment := x.segment.map fun g => { g with frozen := true } }

/-- R180: FREEZE at STU. -/
def freeze (_ : CommandEntry) (s : State) : State × Reply := (s.withStu s.stu.freeze, .done [yesNo true])

/-- FREEZE (R180). -/
def execFreeze (s : State) : Host.Outcome State Fault Refusal := .next (s.runCommand .freeze anyRunState freeze)

/-- R180: THAW at STU. -/
def thaw (_ : CommandEntry) (s : State) : State × Reply :=
  (s.withStu { s.stu with frozen := false }, .done [yesNo false])

/-- THAW (R180). -/
def execThaw (s : State) : Host.Outcome State Fault Refusal := .next (s.runCommand .thaw anyRunState thaw)

/-- R181: RESET STATS at STU. -/
def resetStats (_ : CommandEntry) (s : State) : State × Reply :=
  (s.withStu
    { s.stu.clearAccumulators with
      segment := s.stu.segment.map fun g => { g with invalidRows := 0, partSegment := true } },
   .done [])

/-- RESET_STATS (R181). -/
def execResetStats (s : State) : Host.Outcome State Fault Refusal :=
  .next (s.runCommand .resetStats anyRunState resetStats)

end Sys2Proof.Machine
end

