-- ==== Sys2Proof/Machine/Frames.lean ====
section
/-! DEFINITION. The frames LTX assembles from the records and blocks it takes (R187), laid out by R196. -/

namespace Sys2Proof.Machine

/-- R187, R196: a whole frame: header, payload and check word, high octet first. -/
def frameOctets (destination source kind : Octet) (payload : List Octet) : List Octet :=
  let body := [destination, source, kind] ++ octetsOf 2 payload.length ++ payload
  body ++ octetsOf 2 (checkWord body).toNat

/-- R27, R196: a RESPONSE payload. -/
def Response.payload (r : Response) : List Octet :=
  [r.code] ++ octetsOf 2 r.tag.toNat ++ [r.status.octet] ++ r.results

/-- R196: a row index and a located position. -/
def RowRef.octets (r : RowRef) : List Octet := octetsOf 4 r.index.toNat ++ octetsOf 4 r.position

/-- R193: the measures of a stream mask, in ascending order: bit n of the mask, bit 0 the least significant, names Mn
(assumption log 31: DESIGN CHOICE). -/
def maskMeasures (mask : Half) : List (Fin 16) := (List.finRange 16).filter (fun m => mask.getLsbD m.val)

/-- R196: a row of a ROWS payload. -/
def Row.octets (mask : Half) (r : Row) : List Octet :=
  octetsOf 4 r.index.toNat ++ octetsOf 4 r.position ++ octetsOf 2 r.speed ++ octetsOf 1 r.epoch.toNat ++ [r.flagsOctet] ++
    octetsOf 2 r.suppress.toNat ++
    (maskMeasures mask).flatMap (fun m => octetsOf 3 (r.measures[m]).value ++ [(r.measures[m]).flagsOctet])

/-- R196: a ROWS payload. -/
def Block.payload (b : Block) : List Octet :=
  [Machine.flagsOctet [b.gapBefore]] ++ octetsOf 1 b.rows.length ++ octetsOf 2 b.skipped ++ octetsOf 2 b.mask.toNat ++
    b.rows.flatMap (Row.octets b.mask)

/-- R196: an EXCEPTION payload. A record not yet closed carries its closing fields as 0. -/
def ExceptionRecord.payload (c : Fin 32) (x : ExceptionRecord) : List Octet :=
  let close := x.closing.getD { endRow := .zero, length := 0, cls := .point, reason := .none, lostBefore := 0 }
  octetsOf 1 c.val ++ octetsOf 1 x.measure.val ++ octetsOf 1 x.band.val ++ octetsOf 1 x.levelOpen ++ octetsOf 1 x.levelMax ++
    [close.cls.octet, close.reason.octet, x.flagsOctet] ++
    x.start.octets ++ octetsOf 1 x.startEpoch.toNat ++ close.endRow.octets ++ octetsOf 4 close.length ++
    octetsOf 4 x.peak.magnitude ++ octetsOf 4 x.peak.signed ++ x.peak.row.octets ++ octetsOf 2 x.openSpeed ++
    octetsOf 4 (x.pitch.getD 0) ++ octetsOf 1 close.lostBefore

/-- R196: an ALERT payload. An absent context number is carried as 0. -/
def AlertRecord.payload (a : AlertRecord) : List Octet :=
  octetsOf 1 a.measure.val ++ octetsOf 1 (a.context.getD 0).val ++ [a.flagsOctet] ++ octetsOf 1 a.band.val ++
    a.start.octets ++ octetsOf 1 a.startEpoch.toNat ++ a.row.octets ++ octetsOf 1 a.epoch.toNat ++
    octetsOf 4 a.peak.magnitude ++ octetsOf 4 a.peak.signed ++ a.peak.row.octets ++ octetsOf 2 a.speed

/-- R196: the code of a location record's kind. -/
def LocationKind.octet : LocationKind → Octet
  | .markApplied .. => 1
  | .markRejected .. => 2
  | .markUnknown _ => 3
  | .positionSet _ => 4
  | .reverseSuspend => 5
  | .locationLost _ => 6

/-- R97, R196: the mark id, mark position, window and δ of a location record, 0 where its kind does not carry them. -/
def LocationKind.fields : LocationKind → Nat × MarkEntry × Int
  | .markApplied q e d => (q, e, d)
  | .markRejected q e d _ => (q, e, d)
  | .markUnknown q => (q, { position := 0, window := 0 }, 0)
  | .positionSet d => (0, { position := 0, window := 0 }, d)
  | .reverseSuspend => (0, { position := 0, window := 0 }, 0)
  | .locationLost _ => (0, { position := 0, window := 0 }, 0)

/-- R196: a LOCATION payload. -/
def LocationRecord.payload (r : LocationRecord) : List Octet :=
  let f := r.kind.fields
  [r.kind.octet, r.flagsOctet] ++ octetsOf 1 r.lost ++ octetsOf 1 r.epoch.toNat ++ octetsOf 4 r.measured ++
    octetsOf 4 r.offset ++ octetsOf 2 f.1 ++ octetsOf 4 f.2.1.position ++ octetsOf 2 f.2.1.window ++
    octetsOf 4 f.2.2

/-- R196: a slot entry of a SEGMENT payload. -/
def SlotResult.octets (x : SlotResult) : List Octet :=
  octetsOf 1 x.slot.val ++ [x.function.octet, x.source.octet, x.status.octet] ++
    [flagsOctet [x.result.isSome, x.aux.isSome]] ++ octetsOf 4 x.n ++ octetsOf 8 (x.result.getD 0) ++ octetsOf 4 (x.aux.getD 0)

/-- R196: a SEGMENT payload. -/
def SegmentRecord.payload (r : SegmentRecord) : List Octet :=
  octetsOf 4 r.segment.number ++ octetsOf 1 r.segment.epoch.toNat ++ [r.segment.flagsOctet] ++ octetsOf 1 r.lostBefore ++
    octetsOf 1 r.entries.length ++ r.segment.first.octets ++ r.segment.last.octets ++ octetsOf 4 r.segment.rowCount ++
    octetsOf 4 r.segment.invalidRows ++ r.entries.flatMap SlotResult.octets

end Sys2Proof.Machine
end

