-- ==== Sys2Proof/Machine/Detection.lean ====
section
/-! DEFINITION. The Exceedance Detector (chapter 7): limit sets, the judgement of one measure at one row (R135), and the
limit commands. Each judgement gives the detector after the row and the notices it sends EXT, in order. -/

namespace Sys2Proof.Machine

/-! ### Limit sets (R129) -/

/-- R129: the enter limit of a level, 0 when the level is unused. -/
def LimitSet.enter (l : LimitSet) (level : Nat) : Nat :=
  match level with
  | 1 => l.enter1
  | 2 => l.enter2
  | 3 => l.enter3
  | _ => 0

/-- R129: the exit limit of a level. -/
def LimitSet.exit (l : LimitSet) (level : Nat) : Int := (l.enter level : Int) - (l.h : Int)

/-- R129: the magnitude of a measure value in the sense judged. -/
def SignMode.magnitude (mode : SignMode) (m : Int) : Nat :=
  match mode with
  | .both => m.natAbs
  | .positive => m.toNat
  | .negative => (-m).toNat

/-- R129: a level is used. -/
def LimitSet.used (l : LimitSet) (level : Nat) : Bool := decide (0 < l.enter level)

/-- The highest of levels 3, 2, 1 with a property, or 0. -/
def highestLevel (p : Nat → Bool) : Nat := if p 3 then 3 else if p 2 then 2 else if p 1 then 1 else 0

/-- R137: u, the highest used level. -/
def LimitSet.highestUsed (l : LimitSet) : Nat := highestLevel l.used

/-- R129: the entered level of a magnitude: the highest used level whose enter limit it reaches; 0 below enter[1]. -/
def LimitSet.entered (l : LimitSet) (a : Nat) : Nat :=
  if a < l.enter1 then 0 else highestLevel fun k => l.used k && decide (l.enter k ≤ a)

/-- R143: c', the highest used level below c whose exit limit the magnitude meets. -/
def LimitSet.fallTo (l : LimitSet) (c a : Nat) : Nat :=
  highestLevel fun k => l.used k && decide (k < c) && decide (l.exit k ≤ (a : Int))

/-! ### One measure at one row (R135 to R145) -/

/-- What the judgement of one measure reads from the row: its place, its flags and the measure's value. -/
structure Judged where
  row : RowRef
  band : Fin 5
  epoch : BitVec 8
  lowSpeed : Bool
  speed : Nat
  suppressed : Bool
  value : Quantity
  deriving DecidableEq, Repr

/-- R135: measure `m` of a row. Bit n of the suppress mask, bit 0 the least significant, names Mn (assumption log 31: DESIGN
CHOICE). -/
def Row.judged (r : Row) (m : Fin 16) : Judged :=
  { row := { index := r.index, position := r.position }, band := r.band, epoch := r.epoch, lowSpeed := r.lowSpeed,
    speed := r.speed, suppressed := r.suppress.getLsbD m.val, value := r.measures[m] }

/-- R129: the magnitude of the row's value under a limit set. -/
def Judged.magnitude (j : Judged) (l : LimitSet) : Nat := l.sign.magnitude j.value.value

/-- R146: a CLOSE notice, with the level before the close. -/
def Detector.closeNotice (d : Detector) (m : Fin 16) (cause : CloseCause) (endRow : RowRef) : Notice :=
  .closed m cause endRow d.level

/-- R146: the ROW notice of a row, with the level after it. -/
def Judged.rowNotice (j : Judged) (l : LimitSet) (m : Fin 16) (level : Nat) : Notice :=
  .row m j.row j.epoch j.value.valid (if j.value.valid then j.magnitude l else 0) (if j.value.valid then j.value.value else 0)
    j.value.saturated j.lowSpeed j.speed level

/-- R136: step 1, when the measure has no limits at the row. -/
def Detector.noLimits (d : Detector) (m : Fin 16) (j : Judged) : Detector × List Notice :=
  match d.mode with
  | .active => (.cleared .disabled, [d.closeNotice m .noLimits (d.previous.getD j.row)])
  | .quiet | .latched => (.cleared .disabled, [])
  | .disabled => (d, [])

/-- R136: step 2: a DISABLED detector whose measure has limits becomes QUIET. -/
def Detector.enable (d : Detector) : Detector := if d.mode = .disabled then .cleared .quiet else d

/-- R137: step 3: an ACTIVE level above the highest used level is lowered to it. -/
def Detector.lower (d : Detector) (u : Nat) : Detector :=
  if d.mode = .active ∧ u < d.level then
    { d with level := u, riseCount := 0, riseMin := 0, fallCount := 0, lastHold := none }
  else d

/-- R138: step 4, for a suppressed measure. -/
def Detector.suppress (d : Detector) (m : Fin 16) (j : Judged) : Detector × List Notice :=
  (.cleared .quiet, if d.mode = .active then [d.closeNotice m .suppressed (d.previous.getD j.row)] else [])

/-- R140: the pending run a row opens. -/
def Judged.openRun (j : Judged) (l : LimitSet) : PendingRun :=
  { start := j.row, band := j.band, epoch := j.epoch,
    peak := { magnitude := j.magnitude l, signed := j.value.value, row := j.row },
    sat := j.value.saturated, lowSpeed := j.lowSpeed, corrected := false }

/-- R140, R156: a peak after a row; on equal magnitude the earlier peak is kept. -/
def Peak.after (p : Peak) (magnitude : Nat) (signed : Int) (row : RowRef) : Peak :=
  if p.magnitude < magnitude then { magnitude := magnitude, signed := signed, row := row } else p

/-- R140: the pending run extended by a row. -/
def Judged.extendRun (j : Judged) (l : LimitSet) (p : PendingRun) : PendingRun :=
  { p with
    peak := p.peak.after (j.magnitude l) j.value.value j.row
    sat := p.sat || j.value.saturated
    lowSpeed := p.lowSpeed || j.lowSpeed
    corrected := p.corrected || j.epoch != p.epoch }

/-- R140: the pending run after a row of a rise. -/
def Detector.runAfter (d : Detector) (l : LimitSet) (j : Judged) : PendingRun :=
  if d.riseCount = 0 then j.openRun l
  else
    match d.pendingRun with
    | some p => j.extendRun l p
    | none => j.openRun l

/-- R140, R141: the rise minimum after a row that entered level `e`. -/
def Detector.riseMinAfter (d : Detector) (e : Nat) : Nat := if d.riseCount = 0 then e else min d.riseMin e

/-- R144: the exceedance, still open after the row, has reached its maximum length. -/
def Detector.reachesMaximum (d : Detector) (l : LimitSet) : Bool :=
  decide (0 < l.maxLength) && decide (l.maxLength ≤ d.runLength)

/-- R144: an ACTIVE detector after its row, closed LONG when it has reached the maximum length. -/
def Detector.checkLength (d : Detector) (l : LimitSet) (m : Fin 16) (j : Judged) : Detector × List Notice :=
  if d.reachesMaximum l then (.cleared .latched, [d.closeNotice m .long j.row]) else (d, [])

/-- R140: the detector as a rise makes it ACTIVE. -/
def Detector.activate (d : Detector) (e : Nat) (row : RowRef) : Detector :=
  { d with
    mode := .active, level := d.riseMinAfter e, riseCount := 0, riseMin := d.riseMinAfter e, pendingRun := none,
    fallCount := 0, previous := some row, lastHold := none, runLength := d.riseCount + 1 }

/-- R140: step 6, a valid row in QUIET. -/
def Detector.judgeQuiet (d : Detector) (l : LimitSet) (m : Fin 16) (j : Judged) : Detector × List Notice :=
  let e := l.entered (j.magnitude l)
  if e = 0 then ({ d with riseCount := 0, riseMin := 0, pendingRun := none }, [])
  else if l.e ≤ d.riseCount + 1 then
    let d1 := d.activate e j.row
    let c := d1.checkLength l m j
    (c.1, .opened m (d.runAfter l j) d1.level j.row j.epoch j.speed :: c.2)
  else
    ({ d with riseCount := d.riseCount + 1, riseMin := d.riseMinAfter e, pendingRun := some (d.runAfter l j) }, [])

/-- R139, R142: a row added to the fall run: the rise is cleared, and the first row of a run fixes the last-hold row. -/
def Detector.fallRow (d : Detector) : Detector :=
  { d with
    riseCount := 0, riseMin := 0, fallCount := d.fallCount + 1
    lastHold := if d.fallCount = 0 then d.previous else d.lastHold }

/-- R142, R144: a row of an exceedance that stays open: its ROW notice, the previous row, and the length test. -/
def Detector.stayActive (d : Detector) (l : LimitSet) (m : Fin 16) (j : Judged) : Detector × List Notice :=
  let c := { d with previous := some j.row }.checkLength l m j
  (c.1, j.rowNotice l m d.level :: c.2)

/-- R139, R143: the fall run reached by this row, `target` being c'. -/
def Detector.endFall (d : Detector) (l : LimitSet) (m : Fin 16) (j : Judged) (target : Nat) : Detector × List Notice :=
  if d.fallCount < l.x then d.stayActive l m j
  else if target = 0 then
    (.cleared .quiet, [j.rowNotice l m d.level, d.closeNotice m .fall (d.lastHold.getD j.row)])
  else { d with level := target, fallCount := 0, lastHold := none }.stayActive l m j

/-- R141: a row of escalation to level `e`. -/
def Detector.escalate (d : Detector) (l : LimitSet) (e : Nat) : Detector :=
  if l.e ≤ d.riseCount + 1 then
    { d with level := d.riseMinAfter e, riseCount := 0, riseMin := d.riseMinAfter e, fallCount := 0 }
  else { d with riseCount := d.riseCount + 1, riseMin := d.riseMinAfter e, fallCount := 0 }

/-- R141 to R144: step 7, a valid row in ACTIVE, the run length already increased. -/
def Detector.judgeActive (d : Detector) (l : LimitSet) (m : Fin 16) (j : Judged) : Detector × List Notice :=
  let a := j.magnitude l
  if d.level < l.entered a then (d.escalate l (l.entered a)).stayActive l m j
  else if (a : Int) < l.exit d.level then d.fallRow.endFall l m j (l.fallTo d.level a)
  else { d with riseCount := 0, riseMin := 0, fallCount := 0, lastHold := none }.stayActive l m j

/-- R145: step 8, a valid row in LATCHED. -/
def Detector.judgeLatched (d : Detector) (l : LimitSet) (j : Judged) : Detector :=
  if (j.magnitude l : Int) < l.exit 1 then
    if l.x ≤ d.releaseCount + 1 then .cleared .quiet else { d with releaseCount := d.releaseCount + 1 }
  else { d with releaseCount := 0 }

/-- R135: the run length of an ACTIVE row. -/
def Detector.lengthen (d : Detector) : Detector := { d with runLength := countUp Config.countMax d.runLength }

/-- R135, R139: steps 5 to 8. -/
def Detector.judgeValue (d : Detector) (l : LimitSet) (m : Fin 16) (j : Judged) : Detector × List Notice :=
  match d.mode with
  | .active =>
    if j.value.valid then d.lengthen.judgeActive l m j else d.lengthen.fallRow.endFall l m j 0
  | .latched => (if j.value.valid then d.judgeLatched l j else { d with releaseCount := 0 }, [])
  | .quiet | .disabled =>
    if j.value.valid then d.judgeQuiet l m j else ({ d with riseCount := 0, riseMin := 0, pendingRun := none }, [])

/-- R135: the judgement of measure `m` at one row. -/
def Detector.judge (d : Detector) (kind : MeasureEntry) (l : LimitSet) (m : Fin 16) (j : Judged) :
    Detector × List Notice :=
  if kind = .disabled ∨ l.used 1 = false then d.noLimits m j
  else
    let d1 := d.enable.lower l.highestUsed
    if j.suppressed then d1.suppress m j else d1.judgeValue l m j

/-- R134, R135: one measure of a row judged at EXD. -/
def Exd.judge (x : Exd) (measures : Vector MeasureEntry 16) (r : Row) (m : Fin 16) : Detector × List Notice :=
  (x.detectors[m]).judge (measures[m]) (x.limitSet r.band m) m (r.judged m)

/-- R134: EXD after a row event. -/
def Exd.takeRow (x : Exd) (measures : Vector MeasureEntry 16) (r : Row) : Exd :=
  { x with detectors := Vector.ofFn fun m : Fin 16 => (x.judge measures r m).1 }

/-- R134: the notices of a row event, in ascending order of measure. -/
def Exd.rowNotices (x : Exd) (measures : Vector MeasureEntry 16) (r : Row) : List Notice :=
  (List.finRange 16).flatMap fun m => (x.judge measures r m).2

/-! ### Detector resets (R148, R149) -/

/-- R148: a detector in DISABLED stays, and every other becomes QUIET with its counts cleared. -/
def Detector.reset (d : Detector) : Detector := if d.mode = .disabled then d else .cleared .quiet

/-- R148: every detector reset. -/
def Exd.resetDetectors (x : Exd) : Exd :=
  { x with detectors := Vector.ofFn fun m : Fin 16 => (x.detectors[m]).reset }

/-- R149: every detector after a reset that leaves this measure table. -/
def detectorsAfterReset (measures : Vector MeasureEntry 16) : Vector Detector 16 :=
  Vector.ofFn fun m : Fin 16 => .cleared (if measures[m] = .disabled then .disabled else .quiet)

/-! ### WRITE LIMITS and READ LIMITS (R130, R131) -/

/-- R130, check 1: the limit set carried, if its fields are in range. -/
def limitSet? (a : List Octet) : Option LimitSet :=
  match signMode? (field a 18 1) with
  | none => none
  | some sign =>
    let l : LimitSet :=
      { enter1 := field a 2 4, enter2 := field a 6 4, enter3 := field a 10 4, h := field a 14 4, sign := sign,
        e := field a 19 1, x := field a 20 1, maxLength := field a 21 2 }
    if l.enter1 ≤ 1000000 ∧ l.enter2 ≤ 1000000 ∧ l.enter3 ≤ 1000000 ∧ l.h ≤ 1000000 ∧ 1 ≤ l.e ∧ l.e ≤ 15 ∧ 1 ≤ l.x ∧ l.x ≤ 15
    then some l else none

/-- R130, check 2: used levels from level 1 upward, strictly increasing, and H below enter[1] when level 1 is used. -/
def LimitSet.consistent (l : LimitSet) : Bool :=
  (l.enter2 == 0 || decide (0 < l.enter1 ∧ l.enter1 < l.enter2)) &&
    (l.enter3 == 0 || decide (0 < l.enter2 ∧ l.enter2 < l.enter3)) && (l.enter1 == 0 || decide (l.h < l.enter1))

/-- R130: the table with one limit set replaced. -/
def Exd.setLimits (x : Exd) (band : Fin 5) (m : Fin 16) (l : LimitSet) : Exd :=
  { x with limits := x.limits.set band.val ((x.limits[band]).set m.val l) }

/-- R130: WRITE LIMITS at EXD. -/
def writeLimits (e : CommandEntry) (s : State) : State × Reply :=
  if h : field e.args 0 1 < 5 ∧ field e.args 1 1 < 16 then
    match limitSet? e.args with
    | none => (s, .refuse .badArg)
    | some l =>
      if l.consistent then (s.withExd (s.exd.setLimits ⟨field e.args 0 1, h.1⟩ ⟨field e.args 1 1, h.2⟩ l), .done [])
      else (s, .refuse .badTable)
  else (s, .refuse .badArg)

/-- WRITE_LIMITS (R130). -/
def execWriteLimits (s : State) : Host.Outcome State Fault Refusal :=
  .next (s.runCommand .writeLimits anyRunState writeLimits)

/-- R131: the exit limit of a level as reported, 0 when the level is unused. -/
def LimitSet.reportedExit (l : LimitSet) (level : Nat) : Int := if l.used level then l.exit level else 0

/-- R129, R131, R196: a limit set with its exit limits. -/
def LimitSet.octets (l : LimitSet) : List Octet :=
  octetsOf 4 l.enter1 ++ octetsOf 4 l.enter2 ++ octetsOf 4 l.enter3 ++ octetsOf 4 l.h ++ [l.sign.octet] ++ octetsOf 1 l.e ++
    octetsOf 1 l.x ++ octetsOf 2 l.maxLength ++ octetsOf 4 (l.reportedExit 1) ++ octetsOf 4 (l.reportedExit 2) ++
    octetsOf 4 (l.reportedExit 3)

/-- R131: the results of READ LIMITS. -/
def Exd.limitResults (x : Exd) (band : Fin 5) (m : Fin 16) : List Octet :=
  (x.limitSet band m).octets ++ [(x.detectors[m]).mode.octet] ++ octetsOf 1 (x.detectors[m]).level ++
    octetsOf 2 (x.detectors[m]).runLength

/-- R131: READ LIMITS at EXD. -/
def readLimits (e : CommandEntry) (s : State) : State × Reply :=
  if h : field e.args 0 1 < 5 ∧ field e.args 1 1 < 16 then
    (s, .done (s.exd.limitResults ⟨field e.args 0 1, h.1⟩ ⟨field e.args 1 1, h.2⟩))
  else (s, .refuse .badArg)

/-- READ_LIMITS (R131). -/
def execReadLimits (s : State) : Host.Outcome State Fault Refusal :=
  .next (s.runCommand .readLimits anyRunState readLimits)

end Sys2Proof.Machine
end

