-- ==== Sys2Proof/Machine/Resets.lean ====
section
/-! DEFINITION. The three resets (R36, R37): power-on, and the commanded resets as they take effect at every block, with
the commands RESET WARM and RESET COLD that ask for them. -/

namespace Sys2Proof.Machine

/-- R4, R14: a commanded reset leaves the receiver, and voids the onward copy of a frame being assembled. -/
def Receiver.voidCopy : Receiver → Receiver
  | .receiving f => .receiving { f with copyVoid := true }
  | r => r

/-- R4, R16, R18, R22: LRX after a commanded reset. -/
def Lrx.commandedReset (l : Lrx) : Lrx :=
  { l with receiver := l.receiver.voidCopy, intake := [], commands := [], counters := .zero }

/-- R23: CMU after a commanded reset. -/
def Cmu.commandedReset (c : Cmu) : ResetKind → Cmu
  | .cold => .cold
  | .warm => { c with runState := .stopped, runNumber := 0, resetPending := none, commandsDiscarded := 0 }

/-- R41, R55: CAL after a commanded reset. -/
def Cal.commandedReset (c : Cal) : ResetKind → Cal
  | .cold => .cold
  | .warm => { c with lastReading := Vector.replicate 12 none, held := none, zero := .idle }

/-- R84: LOC after a commanded reset. -/
def Loc.commandedReset (l : Loc) : ResetKind → Loc
  | .cold => .cold
  | .warm => { l with located := false, offset := 0, epoch := 0, holdoff := none, cursor := none }

/-- R104, R112: MSE after a commanded reset. -/
def Mse.commandedReset (m : Mse) : ResetKind → Mse
  | .cold => .cold
  | .warm => { m with
      history := Vector.replicate 128 none
      newest := none
      baselines := Vector.replicate 16 none }

/-- R128, R149: EXD after a commanded reset that leaves the measure table `measures`. -/
def Exd.commandedReset (x : Exd) (measures : Vector MeasureEntry 16) : ResetKind → Exd
  | .cold => .cold
  | .warm => { x with detectors := detectorsAfterReset measures }

/-- R170: STU after a commanded reset. -/
def Stu.commandedReset (x : Stu) : ResetKind → Stu
  | .cold => .cold
  | .warm => { Stu.cold with slots := x.slots }

/-- R14, R36, R192: a commanded reset takes effect at every block. -/
def State.commandedReset (s : State) (k : ResetKind) : State :=
  { s with
    lrx := s.lrx.commandedReset
    cmu := s.cmu.commandedReset k
    cal := s.cal.commandedReset k
    odo := .afterReset (s.cmu.commandedReset k).config.spacingMm
    loc := s.loc.commandedReset k
    mse := s.mse.commandedReset k
    exd := s.exd.commandedReset s.mse.measures k
    ext := .afterReset
    stu := s.stu.commandedReset k
    ltx := .afterReset s.ltx.hold
    links := .none }

/-- R37: power-on reset: the straps are sampled, every block takes its power-on values, and the outbound lane stops
whatever it carries and sends IDLE (R192). The line's lock is no part of any block (assumption log 6). -/
def State.powerOnReset (s : State) (straps : BitVec 6) : State :=
  { State.reset with
    station := straps
    lineLock := s.lineLock
    outbound := s.outbound ++ [.idle]
    pending := s.pending }

/-- POWER_ON_RESET (R37). -/
def execPowerOnReset (straps : BitVec 6) (s : State) : Host.Outcome State Fault Refusal := .next (s.powerOnReset straps)

/-- R36: RESET WARM or RESET COLD at CMU: reset pending is set. -/
def requestReset (k : ResetKind) (_ : CommandEntry) (s : State) : State × Reply :=
  (s.withCmu { s.cmu with resetPending := some k }, .done [])

/-- RESET_WARM (R36). -/
def execResetWarm (s : State) : Host.Outcome State Fault Refusal :=
  .next (s.runCommand .resetWarm anyRunState (requestReset .warm))

/-- RESET_COLD (R36). -/
def execResetCold (s : State) : Host.Outcome State Fault Refusal :=
  .next (s.runCommand .resetCold anyRunState (requestReset .cold))

end Sys2Proof.Machine
end

