-- ==== Sys2Proof/Machine/Tracking.lean ====
section
/-! DEFINITION. The Exception Tracker (chapter 8): contexts opened, followed, closed, classified and posted; alerts; the
cyclic test; truncation; the open count. EXT reaches outside itself only to offer alerts to LTX's alert queue (R157), so
its steps act on a Tracker: EXT with that queue. -/

namespace Sys2Proof.Machine

/-- EXT with the alert queue of LTX it offers alerts to (R157). -/
structure Tracker where
  ext : Ext
  alerts : List AlertRecord
  deriving DecidableEq, Repr

/-- EXT and the alert queue of a state. -/
def State.tracker (s : State) : Tracker := { ext := s.ext, alerts := s.ltx.alerts }

/-- The state with EXT and the alert queue replaced. -/
def State.withTracker (s : State) (t : Tracker) : State := (s.withExt t.ext).withLtx { s.ltx with alerts := t.alerts }

/-! ### Updates of EXT -/

/-- A context's record updated. -/
def Ext.updateRecord (x : Ext) (c : Fin 32) (f : ExceptionRecord → ExceptionRecord) : Ext :=
  { x with contexts := x.contexts.set c.val { x.contexts[c] with record := f (x.contexts[c]).record } }

/-- A measure's tracking entry replaced. -/
def Ext.setTracking (x : Ext) (m : Fin 16) (t : Tracking) : Ext := { x with openMap := x.openMap.set m.val t }

/-! ### Alerts (R157, R158) -/

/-- R157: an alert of a tracked exception: ALERTED is set, and ALERT_LOST too when the alert queue is full. -/
def Tracker.raiseTracked (t : Tracker) (c : Fin 32) (row : RowRef) (epoch : BitVec 8) (speed : Nat) : Tracker :=
  let r := (t.ext.contexts[c]).record
  if t.alerts.length < Config.alertCapacity then
    { ext := t.ext.updateRecord c fun r => { r with alerted := true }
      alerts := t.alerts ++
        [{ measure := r.measure, context := some c, band := r.band, start := r.start, startEpoch := r.startEpoch, row := row,
           epoch := epoch, peak := r.peak, speed := speed }] }
  else { t with ext := t.ext.updateRecord c fun r => { r with alerted := true, alertLost := true } }

/-- R157: an alert of an untracked exception: ALERTED is set; the drop at a full queue leaves no trace. -/
def Tracker.raiseUntracked (t : Tracker) (m : Fin 16) (u : UntrackedRecord) (row : RowRef) (epoch : BitVec 8) (speed : Nat) :
    Tracker :=
  { ext := t.ext.setTracking m (.untracked { u with alerted := true })
    alerts :=
      if t.alerts.length < Config.alertCapacity then
        t.alerts ++
          [{ measure := m, context := none, band := u.band, start := u.start, startEpoch := u.startEpoch, row := row,
             epoch := epoch, peak := u.peak, speed := speed }]
      else t.alerts }

/-! ### Opening (R155) -/

/-- R155: the record a tracked exception opens with. -/
def openRecord (m : Fin 16) (run : PendingRun) (level : Nat) (row : RowRef) (speed : Nat) : ExceptionRecord :=
  { measure := m, band := run.band, start := run.start, startEpoch := run.epoch, openSpeed := speed, levelOpen := level,
    levelMax := level, last := row, peak := run.peak, sat := run.sat, invalidSeen := false, lowSpeed := run.lowSpeed,
    corrected := run.corrected, alerted := false, alertLost := false, cyclic := false, pitch := none, closing := none }

/-- R154, R155: the record of an exceedance that opens untracked. -/
def openUntracked (run : PendingRun) : UntrackedRecord :=
  { band := run.band, start := run.start, startEpoch := run.epoch, peak := run.peak, alerted := false }

/-- R155: context `c` taken from the head of the free list for measure `m`. -/
def Ext.openContext (x : Ext) (c : Fin 32) (rest : List (Fin 32)) (m : Fin 16) (r : ExceptionRecord) : Ext :=
  { x with
    contexts := x.contexts.set c.val { state := .opened, record := r }
    free := rest
    openMap := x.openMap.set m.val (.tracked c) }

/-- R155: an exceedance followed without a context, and counted lost. -/
def Ext.openWithout (x : Ext) (m : Fin 16) (u : UntrackedRecord) : Ext :=
  { x with openMap := x.openMap.set m.val (.untracked u), lost := countUp Config.lostMax x.lost }

/-- R155: an OPEN notice. -/
def Tracker.opened (t : Tracker) (m : Fin 16) (run : PendingRun) (level : Nat) (row : RowRef) (epoch : BitVec 8)
    (speed : Nat) : Tracker :=
  match t.ext.free with
  | c :: rest =>
    let t1 := { t with ext := t.ext.openContext c rest m (openRecord m run level row speed) }
    if level = 3 then t1.raiseTracked c row epoch speed else t1
  | [] =>
    let t1 := { t with ext := t.ext.openWithout m (openUntracked run) }
    if level = 3 then t1.raiseUntracked m (openUntracked run) row epoch speed else t1

/-! ### Following (R156) -/

/-- R156: a tracked record after a ROW notice. -/
def ExceptionRecord.afterRow (r : ExceptionRecord) (row : RowRef) (epoch : BitVec 8) (valid : Bool) (magnitude : Nat)
    (signed : Int) (saturated lowSpeed : Bool) (level : Nat) : ExceptionRecord :=
  { r with
    last := row
    levelMax := max r.levelMax level
    peak := if valid then r.peak.after magnitude signed row else r.peak
    sat := r.sat || saturated
    invalidSeen := r.invalidSeen || !valid
    lowSpeed := r.lowSpeed || lowSpeed
    corrected := r.corrected || epoch != r.startEpoch }

/-- R156: an untracked record after a ROW notice: its peak only. -/
def UntrackedRecord.afterRow (u : UntrackedRecord) (row : RowRef) (valid : Bool) (magnitude : Nat) (signed : Int) :
    UntrackedRecord :=
  { u with peak := if valid then u.peak.after magnitude signed row else u.peak }

/-- R156, R157: a ROW notice. -/
def Tracker.followed (t : Tracker) (m : Fin 16) (row : RowRef) (epoch : BitVec 8) (valid : Bool) (magnitude : Nat)
    (signed : Int) (saturated lowSpeed : Bool) (speed level : Nat) : Tracker :=
  match t.ext.openMap[m] with
  | .none => t
  | .tracked c =>
    let t1 := { t with ext :=
      t.ext.updateRecord c fun r => r.afterRow row epoch valid magnitude signed saturated lowSpeed level }
    if level = 3 ∧ (t.ext.contexts[c]).record.alerted = false then t1.raiseTracked c row epoch speed else t1
  | .untracked u =>
    let u1 := u.afterRow row valid magnitude signed
    let t1 := { t with ext := t.ext.setTracking m (.untracked u1) }
    if level = 3 ∧ u.alerted = false then t1.raiseUntracked m u1 row epoch speed else t1

/-! ### Closing (R159 to R165) -/

/-- R159: the length of an exception in rows. -/
def exceptionLength (start finish : RowRef) : Nat := (finish.index - start.index).toNat + 1

/-- R159: the class of an exception closed by a CLOSE notice. -/
def closeClass (c : ConfigRecord) (cause : CloseCause) (length : Nat) : ExceptionClass :=
  if cause = .long then .long else if length ≤ c.pointLen then .point else .extended

/-- R159: the reason of an exception closed by a CLOSE notice. -/
def CloseCause.reason : CloseCause → ExceptionReason
  | .fall | .long => .none
  | .suppressed => .suppressed
  | .noLimits => .noLimits

/-- R162: the spacings between consecutive starts, newest first. -/
def spacings : List RingStart → List Int
  | a :: b :: rest => (a.position - b.position) :: spacings (b :: rest)
  | _ => []

/-- R162: the pitch, when the spacings and epochs of the starts (newest first) make a cyclic fault. -/
def cyclicPitch (c : ConfigRecord) (starts : List RingStart) : Option Int :=
  match starts, spacings starts with
  | current :: older, first :: rest =>
    if ((first :: rest).all fun d => decide ((c.pitchMinMm : Int) ≤ d) && decide (d ≤ (c.pitchMaxMm : Int)) &&
        decide ((d - first).natAbs ≤ c.pitchTolMm)) &&
        (older.all fun a => a.epoch == current.epoch) then some first
    else none
  | _, _ => none

/-- R162: the cyclic test of a start against a ring. -/
def cyclicTest (c : ConfigRecord) (cls : ExceptionClass) (start : RingStart) (ring : List RingStart) : Option Int :=
  if 0 < c.cyclicCount ∧ cls ≠ .long ∧ c.cyclicCount - 1 ≤ ring.length then
    cyclicPitch c (start :: ring.take (c.cyclicCount - 1))
  else none

/-- R163: a ring after a close. -/
def ringAfter (ring : List RingStart) (cause : CloseCause) (start : RingStart) : List RingStart :=
  if cause = .long then ring else (start :: ring).take 3

/-- R163: a measure's ring updated at a close. -/
def Ext.addStart (x : Ext) (m : Fin 16) (cause : CloseCause) (start : RingStart) : Ext :=
  { x with rings := x.rings.set m.val (ringAfter (x.rings[m]) cause start) }

/-- R160: context `c` posted with its finished record; the lost count is recorded and cleared, and measure `m`'s entry
becomes none. -/
def Ext.post (x : Ext) (m : Fin 16) (c : Fin 32) (r : ExceptionRecord) : Ext :=
  { x with
    contexts := x.contexts.set c.val { state := .posted, record := r }
    openMap := x.openMap.set m.val .none
    posted := x.posted ++ [c]
    lost := 0 }

/-- R159, R160, R162: the finished record of an exception. -/
def ExceptionRecord.finish (r : ExceptionRecord) (endRow : RowRef) (cls : ExceptionClass) (reason : ExceptionReason)
    (pitch : Option Int) (lost : Nat) : ExceptionRecord :=
  { r with
    cyclic := pitch.isSome
    pitch := pitch
    closing := some { endRow := endRow, length := exceptionLength r.start endRow, cls := cls, reason := reason,
                      lostBefore := lost } }

/-- R162: the start of an exception, as a ring holds it. -/
def ExceptionRecord.ringStart (r : ExceptionRecord) : RingStart := { position := r.start.position, epoch := r.startEpoch }

/-- R159: a CLOSE notice of a tracked exception in context `k`. -/
def Ext.closeTracked (x : Ext) (c : ConfigRecord) (m : Fin 16) (k : Fin 32) (cause : CloseCause) (endRow : RowRef) : Ext :=
  let r := (x.contexts[k]).record
  let cls := closeClass c cause (exceptionLength r.start endRow)
  let pitch := cyclicTest c cls r.ringStart (x.rings[m])
  (x.addStart m cause r.ringStart).post m k (r.finish endRow cls cause.reason pitch x.lost)

/-- R164: a CLOSE notice of an untracked exception. -/
def Ext.closeUntracked (x : Ext) (m : Fin 16) (u : UntrackedRecord) (cause : CloseCause) : Ext :=
  (x.addStart m cause { position := u.start.position, epoch := u.startEpoch }).setTracking m .none

/-- R159, R164: a CLOSE notice. -/
def Ext.closed (x : Ext) (c : ConfigRecord) (m : Fin 16) (cause : CloseCause) (endRow : RowRef) : Ext :=
  match x.openMap[m] with
  | .none => x
  | .tracked k => x.closeTracked c m k cause endRow
  | .untracked u => x.closeUntracked m u cause

/-- R153: one detector notice at EXT. -/
def Tracker.take (t : Tracker) (c : ConfigRecord) : Notice → Tracker
  | .opened m run level row epoch speed => t.opened m run level row epoch speed
  | .row m row epoch valid a v sat low speed level => t.followed m row epoch valid a v sat low speed level
  | .closed m cause endRow _ => { t with ext := t.ext.closed c m cause endRow }

/-- R167: the open count published at an end-of-row notice. -/
def Ext.publish (x : Ext) (index : Quad) : Ext := { x with openCount := x.countIn .opened, openRow := some index }

/-- R153, R167: the notices of one row, then its end-of-row notice. -/
def Tracker.takeRow (t : Tracker) (c : ConfigRecord) (ns : List Notice) (index : Quad) : Tracker :=
  let t1 := ns.foldl (fun t n => t.take c n) t
  { t1 with ext := t1.ext.publish index }

/-- R165: the truncation of measure `m`. -/
def Ext.truncateOne (c : ConfigRecord) (x : Ext) (m : Fin 16) : Ext :=
  match x.openMap[m] with
  | .none => x
  | .tracked k =>
    let r := (x.contexts[k]).record
    let cls := if exceptionLength r.start r.last ≤ c.pointLen then ExceptionClass.point else ExceptionClass.extended
    x.post m k (r.finish r.last cls .truncated none x.lost)
  | .untracked _ => x.setTracking m .none

/-- R165, R167: every open exceedance ended, in ascending order of measure, and the open count published as 0. -/
def Ext.truncate (x : Ext) (c : ConfigRecord) : Ext :=
  { (List.finRange 16).foldl (Ext.truncateOne c) x with openCount := 0 }

/-- R168: the start notice at EXT. -/
def Ext.startNotice (x : Ext) : Ext := { x with rings := Vector.replicate 16 [], openCount := 0, openRow := none }

/-- R166: context `c` moves to a state, its record unchanged. -/
def Ext.setState (x : Ext) (c : Fin 32) (st : ContextState) : Ext :=
  { x with contexts := x.contexts.set c.val { x.contexts[c] with state := st } }

/-! ### The row event and the gap notice at EXD and EXT (R134, R148, R153) -/

/-- The head of the hand-over from MSE has been taken by EXD. -/
def Links.takenByExd (l : Links) : Links := { l with mseToExd := l.mseToExd.tail }

/-- R134, R153: the row event: EXD judges the row, and EXT takes its notices within the same event. -/
def State.rowEvent (s : State) : State :=
  match s.links.mseToExd.head? with
  | some (.row r) =>
    let s1 := s.withLinks s.links.takenByExd
    if s.keeps r.run then
      (s1.withExd (s.exd.takeRow s.mse.measures r)).withTracker
        (s.tracker.takeRow s.cmu.config (s.exd.rowNotices s.mse.measures r) r.index)
    else s1
  | _ => s

/-- ROW_EVENT (R134 to R147, R153 to R167). -/
def execRowEvent (s : State) : Host.Outcome State Fault Refusal := .next s.rowEvent

/-- R148, R165: EXD's detectors reset and EXT's exceptions truncated, at one event. -/
def State.endExceedances (s : State) : State :=
  (s.withExd s.exd.resetDetectors).withExt (s.ext.truncate s.cmu.config)

/-- R148: a gap notice at EXD and EXT. -/
def State.exdGap (s : State) : State :=
  match s.links.mseToExd.head? with
  | some (.gap run) =>
    let s1 := s.withLinks s.links.takenByExd
    if s.keeps run then s1.endExceedances else s1
  | _ => s

/-- EXD_GAP_NOTICE (R148, R165). -/
def execExdGapNotice (s : State) : Host.Outcome State Fault Refusal := .next s.exdGap

end Sys2Proof.Machine
end

