-- ==== Sys2Proof/Machine/Transmitter.lean ====
section
/-! DEFINITION. The Frame Link Transmitter (chapter 10): downstream hold, the arbiter, the end of a transmission, and row
blocks. -/

namespace Sys2Proof.Machine

/-- HOLD (R185). -/
def execHold (s : State) : Host.Outcome State Fault Refusal := .next (s.withLtx { s.ltx with hold := .hold })

/-- GO (R185). The arbiter's choice that may follow is the row ARBITER_CHOICE (assumption log 14). -/
def execGo (s : State) : Host.Outcome State Fault Refusal := .next (s.withLtx { s.ltx with hold := .go })

/-! ### The arbiter (R186, R187) -/

/-- R187: an own frame: the part's own station is its source. -/
def State.ownFrame (s : State) (destination kind : Octet) (payload : List Octet) : List Octet :=
  frameOctets destination s.stationOctet kind payload

/-- R187: the frame begins on the outbound lane: START and its octets. -/
def State.sendFrame (s : State) (octets : List Octet) : State :=
  { s with outbound := s.outbound ++ .start :: octets.map .octet }

/-- R34, R187: a report frame, to report_dest as it stands at the take. -/
def State.reportFrame (s : State) (kind : Octet) (payload : List Octet) : List Octet :=
  s.ownFrame s.cmu.config.reportDest kind payload

/-- R186, rank 1: an alert is taken. -/
def State.takeAlert (s : State) (a : AlertRecord) (rest : List AlertRecord) : State :=
  (s.withLtx { s.ltx with lane := .own .alert, alerts := rest }).sendFrame (s.reportFrame kindAlert a.payload)

/-- R186, rank 2: a forwarded frame is taken; it keeps its place until its transmission ends. -/
def State.takeForward (s : State) (f : List Octet) : State :=
  (s.withLtx { s.ltx with lane := .forwarded }).sendFrame f

/-- R186, rank 3: a response is taken. -/
def State.takeResponse (s : State) (r : Response) (rest : List Response) : State :=
  (s.withLtx { s.ltx with lane := .own (.response r), responses := rest }).sendFrame
    (s.ownFrame r.destination kindResponse r.payload)

/-- R186, rank 4: a location record is taken. -/
def State.takeLocation (s : State) (r : LocationRecord) (rest : List LocationRecord) : State :=
  (s.withLtx { s.ltx with lane := .own .location, locations := rest }).sendFrame (s.reportFrame kindLocation r.payload)

/-- R166, R186, rank 5: the context at the head of the posted queue is taken. -/
def State.takeContext (s : State) (c : Fin 32) (rest : List (Fin 32)) : State :=
  ((s.withLtx { s.ltx with lane := .own (.exception c) }).withExt
    ({ s.ext with posted := rest }.setState c .sending)).sendFrame
      (s.reportFrame kindException ((s.ext.contexts[c]).record.payload c))

/-- R186, rank 6: a segment record is taken. -/
def State.takeSegment (s : State) (r : SegmentRecord) (rest : List SegmentRecord) : State :=
  (s.withLtx { s.ltx with lane := .own .segment, segments := rest }).sendFrame (s.reportFrame kindSegment r.payload)

/-- R186, rank 7: the PENDING buffer that closed first is taken. -/
def State.takeBlock (s : State) (i : Fin 2) (rest : List (Fin 2)) : State :=
  match s.ltx.buffers[i] with
  | .pending b =>
    (s.withLtx { s.ltx with
      lane := .own (.rows i)
      buffers := s.ltx.buffers.set i (.sending b)
      closedOrder := rest }).sendFrame (s.reportFrame kindRows b.payload)
  | _ => s

/-- R166: the head of the posted queue, when no context is SENDING. -/
def Ext.nextPosted (x : Ext) : Option (Fin 32) := if x.countIn .sending = 0 then x.posted.head? else none

/-- R186: ranks 6 and 7. -/
def State.chooseRecords (s : State) : State :=
  match s.ltx.segments, s.ltx.closedOrder with
  | r :: rest, _ => s.takeSegment r rest
  | [], i :: rest => s.takeBlock i rest
  | [], [] => s

/-- R186: ranks 4 to 7. -/
def State.chooseReports (s : State) : State :=
  match s.ltx.locations, s.ext.nextPosted with
  | r :: rest, _ => s.takeLocation r rest
  | [], some c => s.takeContext c s.ext.posted.tail
  | [], none => s.chooseRecords

/-- R186: the first kind in rank order that has an entry is taken. -/
def State.chooseFrame (s : State) : State :=
  match s.ltx.alerts, s.ltx.forward, s.ltx.responses with
  | a :: rest, _, _ => s.takeAlert a rest
  | [], f :: _, _ => s.takeForward f
  | [], [], r :: rest => s.takeResponse r rest
  | [], [], [] => s.chooseReports

/-- R186: the arbiter chooses when the lane is IDLE and the hold state is GO. -/
def State.arbiterChoice (s : State) : State :=
  if s.ltx.lane = .idle ∧ s.ltx.hold = .go then s.chooseFrame else s

/-- ARBITER_CHOICE (R186, R187). -/
def execArbiterChoice (s : State) : Host.Outcome State Fault Refusal := .next s.arbiterChoice

/-! ### The end of a transmission (R187) -/

/-- R36, R187: the reset that the end of this response's transmission brings into effect, if it answers a RESET. -/
def Response.resets (r : Response) : Option ResetKind :=
  if r.status = .ok ∧ r.code = 0x03 then some .warm
  else if r.status = .ok ∧ r.code = 0x04 then some .cold
  else none

/-- R187: the completion notice of an own frame. -/
def State.completeOwn (s : State) : OwnFrame → State
  | .alert | .location | .segment => s
  | .response r =>
    match r.resets with
    | none => s
    | some k => s.commandedReset k
  | .exception c => s.withExt ({ s.ext with free := s.ext.free ++ [c] }.setState c .free)
  | .rows i => s.withLtx { s.ltx with buffers := s.ltx.buffers.set i .empty }

/-- R187: END is sent and the lane becomes IDLE. -/
def State.endFrameOnLane (s : State) : State :=
  { s with ltx := { s.ltx with lane := .idle }, outbound := s.outbound ++ [.endFrame] }

/-- R187: the transmission of an own or forwarded frame ends. -/
def State.transmissionEnd (s : State) : State :=
  match s.ltx.lane with
  | .idle | .cutThrough => s
  | .forwarded =>
    let s1 := s.endFrameOnLane
    s1.withLtx { s1.ltx with forward := s1.ltx.forward.tail }
  | .own f => s.endFrameOnLane.completeOwn f

/-- TRANSMISSION_END (R36, R166, R187). -/
def execTransmissionEnd (s : State) : Host.Outcome State Fault Refusal := .next s.transmissionEnd

/-! ### Row blocks (R193 to R195) -/

/-- R193: the effective size of a block: as many rows as asked for, and as fit in one frame. -/
def effectiveSize (mask : Half) (blockSize : Nat) : Nat := min blockSize (1018 / (14 + 4 * (maskMeasures mask).length))

/-- R193: a buffer that has reached its effective size becomes PENDING. -/
def Ltx.closeIfFull (l : Ltx) (i : Fin 2) : Ltx :=
  match l.buffers[i] with
  | .filling b => if b.effectiveSize ≤ b.rows.length then l.closeBuffer i else l
  | _ => l

/-- R193: a row appended to the OPEN buffer `i`, which holds `b`. -/
def Ltx.appendRow (l : Ltx) (i : Fin 2) (b : Block) (r : Row) : Ltx :=
  { l with buffers := l.buffers.set i (.filling { b with rows := b.rows ++ [r] }) }.closeIfFull i

/-- R193: a block opened with a row in the EMPTY buffer `i`; it takes the skipped rows count and the gap mark. -/
def Ltx.openBlock (l : Ltx) (i : Fin 2) (mask : Half) (blockSize : Nat) (r : Row) : Ltx :=
  { l with
    buffers := l.buffers.set i (.filling
      { mask := mask, effectiveSize := effectiveSize mask blockSize, skipped := l.skippedRows, gapBefore := l.gapMark,
        rows := [r] })
    skippedRows := 0
    gapMark := false }.closeIfFull i

/-- R193: the OPEN buffer, with the block it holds. -/
def Ltx.openBuffer (l : Ltx) : Option (Fin 2 × Block) :=
  match l.buffers[(0 : Fin 2)], l.buffers[(1 : Fin 2)] with
  | .filling b, _ => some (0, b)
  | _, .filling b => some (1, b)
  | _, _ => none

/-- R193: an EMPTY buffer; the lower-numbered one when both are (assumption log 15). -/
def Ltx.emptyBuffer (l : Ltx) : Option (Fin 2) :=
  if l.buffers[(0 : Fin 2)] = .empty then some 0 else if l.buffers[(1 : Fin 2)] = .empty then some 1 else none

/-- R193, R195: a row that passes R24 at LTX. -/
def Ltx.takeRow (l : Ltx) (mask : Half) (blockSize : Nat) (r : Row) : Ltx :=
  match l.openBuffer, l.emptyBuffer with
  | some (i, b), _ => l.appendRow i b r
  | none, some i => l.openBlock i mask blockSize r
  | none, none => { l with skippedRows := countUp Config.countMax l.skippedRows }

/-- The head of the hand-over from MSE has been taken by LTX. -/
def Links.takenByLtx (l : Links) : Links := { l with mseToLtx := l.mseToLtx.tail }

/-- R193: a row at LTX. -/
def State.ltxRow (s : State) : State :=
  match s.links.mseToLtx.head? with
  | some (.row r) =>
    let s1 := s.withLinks s.links.takenByLtx
    if s.keeps r.run then s1.withLtx (s.ltx.takeRow s.cmu.streamMask s.cmu.blockSize r) else s1
  | _ => s

/-- LTX_ROW (R193, R195). -/
def execLtxRow (s : State) : Host.Outcome State Fault Refusal := .next s.ltxRow

/-- R194: a gap notice at LTX. -/
def State.ltxGap (s : State) : State :=
  match s.links.mseToLtx.head? with
  | some (.gap run) =>
    let s1 := s.withLinks s.links.takenByLtx
    if s.keeps run then s1.withLtx { s.ltx.closeBlock with gapMark := true } else s1
  | _ => s

/-- LTX_GAP_NOTICE (R194). -/
def execLtxGapNotice (s : State) : Host.Outcome State Fault Refusal := .next s.ltxGap

/-- R194: an OPEN buffer becomes EMPTY with its rows. -/
def Buffer.dropOpen : Buffer → Buffer
  | .filling _ => .empty
  | b => b

/-- R194: the start notice at LTX. -/
def Ltx.startNotice (l : Ltx) : Ltx :=
  { l with buffers := Vector.ofFn fun i : Fin 2 => (l.buffers[i]).dropOpen, gapMark := false }

end Sys2Proof.Machine
end

