-- ==== Sys2Proof/Machine/RunControl.lean ====
section
/-! DEFINITION. The run-control commands (R28 to R30, R32) with the notices they send to every block, and the
reverse-limit request (R31). -/

namespace Sys2Proof.Machine

/-- R23: the run state replaced, the suspend cause with it. -/
def Cmu.setRunState (c : Cmu) (r : RunState) : Cmu := { c with runState := r }

/-- R23, R28, R32: an entry into MEASURING, which increases the run number. -/
def Cmu.enterMeasuring (c : Cmu) : Cmu := { c with runState := .measuring, runNumber := c.runNumber + 1 }

/-- R194: the OPEN row block is closed. -/
def State.closeRowBlock (s : State) : State := s.withLtx s.ltx.closeBlock

/-- R81: the start notice at ODO, with what it tells LOC (R95). -/
def State.startOdometry (s : State) : State :=
  let s1 := s.loseLocationIfRolledBack
  s1.withOdo (s.odo.startNotice s.cmu.config)

/-- R82: the resume notice at ODO, with what it tells LOC (R95). -/
def State.resumeOdometry (s : State) : State :=
  let s1 := s.loseLocationIfRolledBack
  s1.withOdo s.odo.resumeNotice

/-- R28, R112, R148, R168, R171, R194: the start notice at MSE, EXD, EXT, STU and LTX. -/
def State.startRecords (s : State) : State :=
  ((((s.withMse s.mse.clear).withExd s.exd.resetDetectors).withExt s.ext.startNotice).withStu s.stu.startNotice).withLtx
    s.ltx.startNotice

/-- R28: what START does at every block but CAL. -/
def State.startRun (s : State) : State := (s.withCmu s.cmu.enterMeasuring).startOdometry.startRecords

/-- R53: whether START aborts a ZERO. -/
def State.collecting (s : State) : Bool :=
  match s.cal.zero with
  | .collecting _ => true
  | _ => false

/-- R28, R53: START as its owning blocks carry it out, the ZERO record included. -/
def startCommand (_ : CommandEntry) (s : State) : State × Reply :=
  (s.startRun.withCal s.cal.abortZero, .done [])

/-- R53, R54: the response of a ZERO that this event aborted is placed if the queue has a free place, after START's own
(assumption log 9); a ZERO already waiting in REPORTING waits for its own event. -/
def State.placeAborted (after before : State) : State :=
  if before.collecting && !after.collecting then after.placeZero else after

/-- START_COMMAND (R28). -/
def execStartCommand (s : State) : Host.Outcome State Fault Refusal :=
  .next ((s.runCommand .startCommand onlyStopped startCommand).placeAborted s)

/-- R175, R183: the stop notice at STU. -/
def State.stopSegment (s : State) : State := (s.withStu s.stu.stopNotice.1).placeSegment s.stu.stopNotice.2

/-- R29: the stop notice at EXD, EXT, STU and LTX. -/
def State.stopNotice (s : State) : State := s.endExceedances.stopSegment.closeRowBlock

/-- R29: STOP; in STOPPED it changes nothing. -/
def stop (_ : CommandEntry) (s : State) : State × Reply :=
  (if s.cmu.runState = .stopped then s else (s.withCmu (s.cmu.setRunState .stopped)).stopNotice, .done [])

/-- STOP (R29). -/
def execStop (s : State) : Host.Outcome State Fault Refusal := .next (s.runCommand .stop anyRunState stop)

/-- R30: the suspend notice at EXD, EXT and LTX. -/
def State.suspendNotice (s : State) : State := s.endExceedances.closeRowBlock

/-- R30, R31: SUSPENDED is entered with a cause. -/
def State.suspendRun (s : State) (cause : SuspendCause) : State :=
  (s.withCmu (s.cmu.setRunState (.suspended cause))).suspendNotice

/-- R30: SUSPEND. -/
def suspend (_ : CommandEntry) (s : State) : State × Reply := (s.suspendRun .command, .done [])

/-- SUSPEND (R30). -/
def execSuspend (s : State) : Host.Outcome State Fault Refusal := .next (s.runCommand .suspend onlyMeasuring suspend)

/-- R32: RESUME. -/
def resume (_ : CommandEntry) (s : State) : State × Reply :=
  ((s.withCmu s.cmu.enterMeasuring).resumeOdometry, .done [])

/-- RESUME (R32). -/
def execResume (s : State) : Host.Outcome State Fault Refusal := .next (s.runCommand .resume onlySuspended resume)

/-- R31: CMU takes the reverse-limit request; it is void unless the part is MEASURING and its run number is in force. -/
def State.takeReverseRequest (s : State) : State :=
  match s.links.reverseRequest with
  | none => s
  | some run =>
    let s1 := s.withLinks { s.links with reverseRequest := none }
    if s.keeps run then (s1.suspendRun .reverse).reverseSuspendRecord else s1

/-- REVERSE_LIMIT_REQUEST (R31, R96). -/
def execReverseLimitRequest (s : State) : Host.Outcome State Fault Refusal := .next s.takeReverseRequest

end Sys2Proof.Machine
end

