-- ==== Sys2Proof/Machine/Settings.lean ====
section
/-! DEFINITION. The configuration record and the stream settings (R33, R35), and the commands IDENTIFY and READ STATUS
(R38, R39). -/

namespace Sys2Proof.Machine

/-! ### SET CONFIG and READ CONFIG (R33, R35) -/

/-- R33: the ranges of the fields of the configuration record (default_band's is its type, report_dest has none). -/
def ConfigRecord.inRange (c : ConfigRecord) : Bool :=
  decide (100 ≤ c.spacingMm ∧ c.spacingMm ≤ 1000) && decide (100 ≤ c.pulseUm ∧ c.pulseUm ≤ 20000) &&
    decide (c.speedBeta ≤ 7) && decide (c.minSpeed ≤ 1000) && decide (5 ≤ c.silenceMs ∧ c.silenceMs ≤ 1000) &&
    decide (c.alignDelay ≤ 64) && decide (1 ≤ c.pointLen ∧ c.pointLen ≤ 255) &&
    decide (c.cyclicCount ≤ 4 ∧ c.cyclicCount ≠ 1) && decide (1000 ≤ c.pitchMinMm ∧ c.pitchMinMm ≤ 100000) &&
    decide (1000 ≤ c.pitchMaxMm ∧ c.pitchMaxMm ≤ 100000) && decide (c.pitchTolMm ≤ 10000) &&
    decide (25 ≤ c.segmentM ∧ c.segmentM ≤ 5000)

/-- R33, R196: the record a SET CONFIG carries, if every field is in its range. -/
def configRecord? (a : List Octet) : Option ConfigRecord :=
  if h : field a 10 1 < 5 then
    let c : ConfigRecord :=
      { spacingMm := field a 0 2, pulseUm := field a 2 2, speedBeta := field a 4 1, minSpeed := field a 5 2,
        silenceMs := field a 7 2, alignDelay := field a 9 1, defaultBand := ⟨field a 10 1, h⟩,
        pointLen := field a 11 1, cyclicCount := field a 12 1, pitchMinMm := field a 13 4, pitchMaxMm := field a 17 4,
        pitchTolMm := field a 21 2, segmentM := field a 23 2, reportDest := BitVec.ofNat 8 (field a 25 1) }
    if c.inRange then some c else none
  else none

/-- R116: the half-length h of a CHORD or TWIST measure, 0 for the other kinds. -/
def MeasureEntry.halfLength : MeasureEntry → Nat
  | .chord _ l => l / 2
  | .twist _ b => b / 2
  | .disabled | .direct _ | .deviation .. | .cantDeviation .. => 0

/-- R33: the cross-checks of a record against the measure table. -/
def ConfigRecord.crossChecks (c : ConfigRecord) (measures : Vector MeasureEntry 16) : Bool :=
  measures.toList.all (fun m => decide (m.halfLength ≤ c.alignDelay)) && decide (c.pitchMinMm ≤ c.pitchMaxMm)

/-- R33: SET CONFIG at CMU. -/
def setConfig (e : CommandEntry) (s : State) : State × Reply :=
  match configRecord? e.args with
  | none => (s, .refuse .badArg)
  | some c =>
    if c.crossChecks s.mse.measures then (s.withCmu { s.cmu with config := c }, .done []) else (s, .refuse .badTable)

/-- SET_CONFIG (R33). -/
def execSetConfig (s : State) : Host.Outcome State Fault Refusal := .next (s.runCommand .setConfig onlyStopped setConfig)

/-- R33, R196: the fields of the configuration record. -/
def ConfigRecord.octets (c : ConfigRecord) : List Octet :=
  octetsOf 2 c.spacingMm ++ octetsOf 2 c.pulseUm ++ octetsOf 1 c.speedBeta ++ octetsOf 2 c.minSpeed ++
    octetsOf 2 c.silenceMs ++ octetsOf 1 c.alignDelay ++ octetsOf 1 c.defaultBand.val ++ octetsOf 1 c.pointLen ++
    octetsOf 1 c.cyclicCount ++ octetsOf 4 c.pitchMinMm ++ octetsOf 4 c.pitchMaxMm ++ octetsOf 2 c.pitchTolMm ++
    octetsOf 2 c.segmentM ++ [c.reportDest]

/-- R35: READ CONFIG at CMU. -/
def readConfig (_ : CommandEntry) (s : State) : State × Reply := (s, .done s.cmu.config.octets)

/-- READ_CONFIG (R35). -/
def execReadConfig (s : State) : Host.Outcome State Fault Refusal :=
  .next (s.runCommand .readConfig anyRunState readConfig)

/-! ### SET STREAM (R35) -/

/-- R35: the stream settings replaced. -/
def Cmu.setStream (c : Cmu) (mask : Half) (size : Nat) : Cmu := { c with streamMask := mask, blockSize := size }

/-- R35, R194: SET STREAM at CMU; a change of either field closes the open row block. -/
def setStream (e : CommandEntry) (s : State) : State × Reply :=
  let mask : Half := BitVec.ofNat 16 (field e.args 0 2)
  let size := field e.args 2 1
  if 1 ≤ size ∧ size ≤ 16 then
    let s1 := s.withCmu (s.cmu.setStream mask size)
    (if mask = s.cmu.streamMask ∧ size = s.cmu.blockSize then s1 else s1.withLtx s1.ltx.closeBlock, .done [])
  else (s, .refuse .badArg)

/-- SET_STREAM (R35). -/
def execSetStream (s : State) : Host.Outcome State Fault Refusal := .next (s.runCommand .setStream anyRunState setStream)

/-! ### IDENTIFY (R38) -/

/-- R38: the results of IDENTIFY. -/
def State.identity (s : State) : List Octet :=
  octetsOf 2 Config.vendorCode ++ octetsOf 2 Config.partNumber ++ octetsOf 1 Config.revision ++ [s.stationOctet] ++
    [s.cmu.runState.octet, s.cmu.runState.causeOctet]

/-- R38: IDENTIFY at CMU. -/
def identify (_ : CommandEntry) (s : State) : State × Reply := (s, .done s.identity)

/-- IDENTIFY (R38). -/
def execIdentify (s : State) : Host.Outcome State Fault Refusal := .next (s.runCommand .identify anyRunState identify)

/-! ### READ STATUS (R39) -/

/-- R39: CMU's items. -/
def Cmu.statusOctets (c : Cmu) : List Octet :=
  [c.runState.octet, c.runState.causeOctet, yesNo c.resetPending.isSome] ++ octetsOf 2 c.commandsDiscarded

/-- R20, R21, R39: the link counters, in the order of R20 and R21. -/
def LinkCounters.octets (c : LinkCounters) : List Octet :=
  octetsOf 2 c.goodFrames ++ octetsOf 2 c.checkErrors ++ octetsOf 2 c.lengthErrors ++ octetsOf 2 c.framingErrors ++
    octetsOf 2 c.abortsReceived ++ octetsOf 2 c.lockLosses ++ octetsOf 2 c.returned ++ octetsOf 2 c.sensorOverruns ++
    octetsOf 2 c.commandsDropped ++ octetsOf 2 c.unknownKind

/-- R39: LRX's items. -/
def Lrx.statusOctets (l : Lrx) : List Octet := [l.receiver.octet, yesNo l.linkUp] ++ l.counters.octets

/-- R39, R56: ODO's items. -/
def Odo.statusOctets (o : Odo) : List Octet :=
  octetsOf 4 o.measured ++ octetsOf 4 (o.r / 1000 : Nat) ++ octetsOf 4 o.s.toNat ++ octetsOf 2 o.vf ++
    [yesNo o.lowSpeed, yesNo o.silenceFlag]

/-- R39, R101: LOC's items; an absent cursor is 65,535. -/
def Loc.statusOctets (l : Loc) : List Octet :=
  [yesNo l.located] ++ octetsOf 1 l.epoch.toNat ++ octetsOf 4 l.offset ++ octetsOf 2 l.sections.length ++
    octetsOf 2 (l.cursor.getD 65535) ++ octetsOf 2 l.marks.length

/-- R39, R167: EXT's items. -/
def Ext.statusOctets (x : Ext) : List Octet :=
  octetsOf 2 (x.countIn .free) ++ octetsOf 2 (x.countIn .opened) ++ octetsOf 2 (x.countIn .posted)

/-- R39: ZERO in progress. -/
def Cal.zeroInProgress (c : Cal) : Bool := c.zero != .idle

/-- R39: the items of READ STATUS, owner by owner (assumption log 11). -/
def State.statusOctets (s : State) : List Octet :=
  s.cmu.statusOctets ++ s.lrx.statusOctets ++ octetsOf 2 s.ltx.forwardsDropped ++ s.odo.statusOctets ++
    s.loc.statusOctets ++ s.ext.statusOctets ++ [yesNo s.stu.frozen, yesNo s.cal.zeroInProgress]

/-- R22, R39, R191: the clear option: every link counter, commands_discarded and forwards_dropped become 0. -/
def State.clearCounters (s : State) : State :=
  ((s.withLrx { s.lrx with counters := .zero }).withCmu { s.cmu with commandsDiscarded := 0 }).withLtx
    { s.ltx with forwardsDropped := 0 }

/-- R39: READ STATUS; a clear option that is neither no nor yes is refused (R196; assumption log 16). -/
def readStatus (e : CommandEntry) (s : State) : State × Reply :=
  match yesNo? (field e.args 0 1) with
  | none => (s, .refuse .badArg)
  | some clear => (if clear then s.clearCounters else s, .done s.statusOctets)

/-- READ_STATUS (R39). -/
def execReadStatus (s : State) : Host.Outcome State Fault Refusal :=
  .next (s.runCommand .readStatus anyRunState readStatus)

end Sys2Proof.Machine
end

