-- ==== Sys2Proof/Machine/Dispatch.lean ====
section
/-! DEFINITION. The dispatch of the commands: one arm per row of spec/opcode_table.json. -/

namespace Sys2Proof.Machine

/-- The effect of a command on the state. -/
def exec (i : Instr) (s : State) : Host.Outcome State Fault Refusal :=
  match i with
  | .dataOctet octet => Sys2Proof.Machine.execDataOctet octet s
  | .idle => Sys2Proof.Machine.execIdle s
  | .start => Sys2Proof.Machine.execStart s
  | .endFrame => Sys2Proof.Machine.execEndFrame s
  | .abort => Sys2Proof.Machine.execAbort s
  | .lossOfLock => Sys2Proof.Machine.execLossOfLock s
  | .lockAcquired => Sys2Proof.Machine.execLockAcquired s
  | .powerOnReset straps => Sys2Proof.Machine.execPowerOnReset straps s
  | .hold => Sys2Proof.Machine.execHold s
  | .go => Sys2Proof.Machine.execGo s
  | .commandDiscarded => Sys2Proof.Machine.execCommandDiscarded s
  | .unknownCommand => Sys2Proof.Machine.execUnknownCommand s
  | .identify => Sys2Proof.Machine.execIdentify s
  | .readStatus => Sys2Proof.Machine.execReadStatus s
  | .resetWarm => Sys2Proof.Machine.execResetWarm s
  | .resetCold => Sys2Proof.Machine.execResetCold s
  | .startCommand => Sys2Proof.Machine.execStartCommand s
  | .stop => Sys2Proof.Machine.execStop s
  | .suspend => Sys2Proof.Machine.execSuspend s
  | .resume => Sys2Proof.Machine.execResume s
  | .setPosition => Sys2Proof.Machine.execSetPosition s
  | .setConfig => Sys2Proof.Machine.execSetConfig s
  | .readConfig => Sys2Proof.Machine.execReadConfig s
  | .setStream => Sys2Proof.Machine.execSetStream s
  | .writeChannel => Sys2Proof.Machine.execWriteChannel s
  | .readChannel => Sys2Proof.Machine.execReadChannel s
  | .zero => Sys2Proof.Machine.execZero s
  | .writeParameter => Sys2Proof.Machine.execWriteParameter s
  | .readParameter => Sys2Proof.Machine.execReadParameter s
  | .writeMeasure => Sys2Proof.Machine.execWriteMeasure s
  | .readMeasure => Sys2Proof.Machine.execReadMeasure s
  | .rebase => Sys2Proof.Machine.execRebase s
  | .writeLimits => Sys2Proof.Machine.execWriteLimits s
  | .readLimits => Sys2Proof.Machine.execReadLimits s
  | .writeMark => Sys2Proof.Machine.execWriteMark s
  | .deleteMark => Sys2Proof.Machine.execDeleteMark s
  | .clearMarks => Sys2Proof.Machine.execClearMarks s
  | .readMark => Sys2Proof.Machine.execReadMark s
  | .appendSection => Sys2Proof.Machine.execAppendSection s
  | .clearSections => Sys2Proof.Machine.execClearSections s
  | .readSection => Sys2Proof.Machine.execReadSection s
  | .writeSlot => Sys2Proof.Machine.execWriteSlot s
  | .readSlot => Sys2Proof.Machine.execReadSlot s
  | .freeze => Sys2Proof.Machine.execFreeze s
  | .thaw => Sys2Proof.Machine.execThaw s
  | .resetStats => Sys2Proof.Machine.execResetStats s
  | .frameTake => Sys2Proof.Machine.execFrameTake s
  | .zeroTimeout => Sys2Proof.Machine.execZeroTimeout s
  | .zeroResponsePlaced => Sys2Proof.Machine.execZeroResponsePlaced s
  | .frameEvent => Sys2Proof.Machine.execFrameEvent s
  | .silenceExpiry => Sys2Proof.Machine.execSilenceExpiry s
  | .reverseLimitRequest => Sys2Proof.Machine.execReverseLimitRequest s
  | .markHandoff => Sys2Proof.Machine.execMarkHandoff s
  | .locSample => Sys2Proof.Machine.execLocSample s
  | .locGapNotice => Sys2Proof.Machine.execLocGapNotice s
  | .sampleEvent => Sys2Proof.Machine.execSampleEvent s
  | .gapEvent => Sys2Proof.Machine.execGapEvent s
  | .rowEvent => Sys2Proof.Machine.execRowEvent s
  | .exdGapNotice => Sys2Proof.Machine.execExdGapNotice s
  | .stuRowEvent => Sys2Proof.Machine.execStuRowEvent s
  | .stuGapNotice => Sys2Proof.Machine.execStuGapNotice s
  | .ltxRow => Sys2Proof.Machine.execLtxRow s
  | .ltxGapNotice => Sys2Proof.Machine.execLtxGapNotice s
  | .arbiterChoice => Sys2Proof.Machine.execArbiterChoice s
  | .transmissionEnd => Sys2Proof.Machine.execTransmissionEnd s

end Sys2Proof.Machine
end

