-- ==== Sys2Proof/Safety.lean ====
section
/-! DEFINITION. What counts as a safe run, in the terms the statements use: how a host command stands in the command queue,
the laws the manual states of the part's state, and the invariants every step keeps. -/

namespace Sys2Proof.Machine

/-! ### Commands in the command queue -/

/-- R196: the payload of a COMMAND frame: the code, the tag and the arguments. -/
def commandPayload (code : Octet) (tag : Half) (args : List Octet) : List Octet := code :: (octetsOf 2 tag.toNat ++ args)

/-- R18: the entry of a COMMAND frame with that payload. -/
def commandEntry (source : Octet) (broadcast : Bool) (code : Octet) (tag : Half) (args : List Octet) : CommandEntry :=
  { source := source, broadcast := broadcast, payload := commandPayload code tag args }

/-- R25: `e` stands at the head of the command queue with `rest` behind it, and CMU can take it. -/
structure State.CanTake (s : State) (e : CommandEntry) (rest : List CommandEntry) : Prop where
  head : s.lrx.commands = e :: rest
  noReset : s.cmu.resetPending = none
  room : e.broadcast = true ∨ s.ltx.responses.length < 4

/-- R25: the state once CMU has removed the head entry, `rest` being what stood behind it. -/
def State.taken (s : State) (rest : List CommandEntry) : State := { s with lrx := { s.lrx with commands := rest } }

/-- R27: the state with one response more at the tail of the response queue. -/
def State.responded (s : State) (destination code : Octet) (tag : Half) (status : Status) (results : List Octet) : State :=
  { s with ltx := { s.ltx with responses := s.ltx.responses ++
      [{ destination := destination, code := code, tag := tag, status := status, results := results }] } }

/-- R26: the state with one command entry more counted in commands_discarded, which stops at 65,535. -/
def State.discarded (s : State) : State :=
  { s with cmu := { s.cmu with commandsDiscarded := min (s.cmu.commandsDiscarded + 1) 65535 } }

/-- R26, R27: what follows an execution: the response of a command addressed to the part, nothing for a broadcast one. -/
def State.answeredOk (s : State) (broadcast : Bool) (destination code : Octet) (tag : Half) (results : List Octet) : State :=
  if broadcast then s else s.responded destination code tag .ok results

/-- R196: the code of a run state and of its cause; the cause of a state that has none is 0. -/
def runStateCodes (r : RunState) : List Octet :=
  match r with
  | .stopped => [0, 0]
  | .measuring => [1, 0]
  | .suspended .command => [2, 0]
  | .suspended .reverse => [2, 1]

/-- R196: the command codes. -/
def commandCodes : List Octet :=
  [0x01, 0x02, 0x03, 0x04, 0x10, 0x11, 0x12, 0x13, 0x14, 0x20, 0x21, 0x22, 0x30, 0x31, 0x32, 0x38, 0x39, 0x40, 0x41, 0x42,
   0x48, 0x49, 0x50, 0x51, 0x52, 0x53, 0x58, 0x59, 0x5A, 0x60, 0x61, 0x62, 0x63, 0x64]

/-- R26, case 2: the codes of START, STOP, SUSPEND, RESUME, FREEZE and THAW. -/
def broadcastCodes : List Octet := [0x10, 0x11, 0x12, 0x13, 0x62, 0x63]

/-- Section 2.4: the run states in which a command of the table is accepted. -/
def acceptedIn (i : Instr) (r : RunState) : Prop :=
  match i with
  | .startCommand | .setConfig | .writeChannel | .zero | .writeParameter | .writeMeasure | .writeSlot => r = .stopped
  | .suspend => r = .measuring
  | .resume => ∃ cause, r = .suspended cause
  | _ => True

/-- The commands of section 2.4, without ZERO, whose refusals carry results (R27, R54). -/
def isPlainCommand : Instr → Bool
  | .identify | .readStatus | .resetWarm | .resetCold | .startCommand | .stop | .suspend | .resume | .setPosition
  | .setConfig | .readConfig | .setStream | .writeChannel | .readChannel | .writeParameter | .readParameter
  | .writeMeasure | .readMeasure | .rebase | .writeLimits | .readLimits | .writeMark | .deleteMark | .clearMarks
  | .readMark | .appendSection | .clearSections | .readSection | .writeSlot | .readSlot | .freeze | .thaw
  | .resetStats => true
  | _ => false

/-- R196: the arguments of a SET CONFIG that carries the fields of `c`, with `band` as its default_band. -/
def configArguments (c : ConfigRecord) (band : Nat) : List Octet :=
  octetsOf 2 c.spacingMm ++ octetsOf 2 c.pulseUm ++ octetsOf 1 c.speedBeta ++ octetsOf 2 c.minSpeed ++
    octetsOf 2 c.silenceMs ++ octetsOf 1 c.alignDelay ++ octetsOf 1 band ++ octetsOf 1 c.pointLen ++
    octetsOf 1 c.cyclicCount ++ octetsOf 4 c.pitchMinMm ++ octetsOf 4 c.pitchMaxMm ++ octetsOf 2 c.pitchTolMm ++
    octetsOf 2 c.segmentM ++ [c.reportDest]

/-- R196: every field of the record fits the octets that carry it. -/
structure ConfigRecord.Carried (c : ConfigRecord) : Prop where
  octets : c.speedBeta < 256 ∧ c.alignDelay < 256 ∧ c.pointLen < 256 ∧ c.cyclicCount < 256
  pairs : c.spacingMm < 65536 ∧ c.pulseUm < 65536 ∧ c.minSpeed < 65536 ∧ c.silenceMs < 65536 ∧ c.pitchTolMm < 65536 ∧
    c.segmentM < 65536
  quads : c.pitchMinMm < 4294967296 ∧ c.pitchMaxMm < 4294967296

/-- R54: a response of ZERO, with the mask, the completed set, the counts and the offsets it carries: the status once, in the
response's status octet (assumption log 10), and 2 octets for each offset (assumption log 30). -/
def zeroAnswer (source : Octet) (tag : Half) (status : Status) (mask : Half) (completed : BitVec 12) (counts : Vector Nat 12)
    (offsets : Vector Int 12) : Response :=
  { destination := source, code := 0x32, tag := tag, status := status
    results := octetsOf 2 mask.toNat ++ octetsOf 2 completed.toNat ++ counts.toList.flatMap (fun n => octetsOf 1 n) ++
      offsets.toList.flatMap (octetsOf 2) }

/-- R188: the state with one response more at the tail of the response queue. -/
def State.answeredWith (s : State) (r : Response) : State :=
  { s with ltx := { s.ltx with responses := s.ltx.responses ++ [r] } }

/-! ### Capacities and counts -/

/-- R16, R18, R184: no queue holds more entries than its stated capacity. -/
structure State.QueuesBounded (s : State) : Prop where
  intake : s.lrx.intake.length ≤ 8
  commands : s.lrx.commands.length ≤ 4
  alerts : s.ltx.alerts.length ≤ 4
  forward : s.ltx.forward.length ≤ 4
  responses : s.ltx.responses.length ≤ 4
  locations : s.ltx.locations.length ≤ 8
  segments : s.ltx.segments.length ≤ 4

/-- R22: every link counter within 16 bits. -/
structure LinkCounters.Bounded (c : LinkCounters) : Prop where
  goodFrames : c.goodFrames ≤ 65535
  checkErrors : c.checkErrors ≤ 65535
  lengthErrors : c.lengthErrors ≤ 65535
  framingErrors : c.framingErrors ≤ 65535
  abortsReceived : c.abortsReceived ≤ 65535
  lockLosses : c.lockLosses ≤ 65535
  returned : c.returned ≤ 65535
  sensorOverruns : c.sensorOverruns ≤ 65535
  commandsDropped : c.commandsDropped ≤ 65535
  unknownKind : c.unknownKind ≤ 65535

/-- R22, R23, R150, R184: every count that stops at a limit is within it. -/
structure State.CountsBounded (s : State) : Prop where
  link : s.lrx.counters.Bounded
  commandsDiscarded : s.cmu.commandsDiscarded ≤ 65535
  forwardsDropped : s.ltx.forwardsDropped ≤ 65535
  skippedRows : s.ltx.skippedRows ≤ 65535
  locationLost : s.ltx.locationLost ≤ 255
  segmentLost : s.ltx.segmentLost ≤ 255
  exceptionsLost : s.ext.lost ≤ 255

/-! ### The receiver and the copy passed on -/

/-- R4, R7, R8: the frame being assembled: its count, its header and the running check word. -/
def Assembly.Coherent (own : Octet) (f : Assembly) : Prop :=
  match f.header with
  | none => f.octets.length < 5 ∧ f.check = checkWord f.octets
  | some h =>
    h = headerOf own (f.octets.take 5) ∧ h.length ≤ 1024 ∧ 5 ≤ f.octets.length ∧ f.octets.length < 8 + h.length ∧
      f.check = checkWord (f.octets.take (5 + h.length))

/-- R13, R190, R191: a frame handed over is either copied cut-through or held whole in the store buffer, never both; with
none handed over there is neither a cut-through copy nor a stored frame. -/
def Ltx.CopyCoherent (l : Ltx) (handed : Option (List Octet)) : Prop :=
  (l.lane = .cutThrough ∧ l.store = none ∧ handed.isSome) ∨ (l.lane ≠ .cutThrough ∧ l.store = handed)

/-- R13: the octets of the frame LRX is handing over, if it is handing one over. -/
def Receiver.handed : Receiver → Option (List Octet)
  | .receiving f => if f.handsOver then some f.octets else none
  | .hunt | .ready => none

/-- R4, R7, R13, R190, R191: the receiver and the copy it hands over agree: what the outbound lane has carried since the START
of a cut-through copy is exactly the octets handed over. -/
structure State.LinkCoherent (s : State) : Prop where
  assembly : ∀ f, s.lrx.receiver = .receiving f → f.Coherent s.stationOctet
  copy : s.ltx.CopyCoherent s.lrx.receiver.handed
  sent : s.ltx.lane = .cutThrough → ∀ octets, s.lrx.receiver.handed = some octets →
    (LaneSymbol.start :: octets.map .octet) <:+ s.outbound

/-! ### Settings -/

/-- R33: every field of the configuration record within its range. -/
structure ConfigRecord.InRange (c : ConfigRecord) : Prop where
  spacing : 100 ≤ c.spacingMm ∧ c.spacingMm ≤ 1000
  pulse : 100 ≤ c.pulseUm ∧ c.pulseUm ≤ 20000
  speedBeta : c.speedBeta ≤ 7
  minSpeed : c.minSpeed ≤ 1000
  silence : 5 ≤ c.silenceMs ∧ c.silenceMs ≤ 1000
  alignDelay : c.alignDelay ≤ 64
  pointLen : 1 ≤ c.pointLen ∧ c.pointLen ≤ 255
  cyclicCount : c.cyclicCount = 0 ∨ 2 ≤ c.cyclicCount ∧ c.cyclicCount ≤ 4
  pitchMin : 1000 ≤ c.pitchMinMm ∧ c.pitchMinMm ≤ 100000
  pitchMax : 1000 ≤ c.pitchMaxMm ∧ c.pitchMaxMm ≤ 100000
  pitchTol : c.pitchTolMm ≤ 10000
  segment : 25 ≤ c.segmentM ∧ c.segmentM ≤ 5000

/-- R116: the fields of a measure entry within their ranges, under an alignment delay. -/
def MeasureEntry.Lawful (e : MeasureEntry) (alignDelay : Nat) : Prop :=
  match e with
  | .disabled | .direct _ => True
  | .chord _ l => l % 2 = 0 ∧ 2 ≤ l ∧ l ≤ 120 ∧ l / 2 ≤ alignDelay
  | .twist _ b => b % 2 = 0 ∧ 2 ≤ b ∧ b ≤ 120 ∧ b / 2 ≤ alignDelay
  | .deviation _ beta g => 4 ≤ beta ∧ beta ≤ 15 ∧ g ≤ 4
  | .cantDeviation _ beta g => 4 ≤ beta ∧ beta ≤ 15 ∧ g ≤ 4

/-- R33, R35, R116: the configuration record, the stream settings and the measure table satisfy their ranges and the
alignment cross-check together. -/
structure State.SettingsLawful (s : State) : Prop where
  config : s.cmu.config.InRange
  pitch : s.cmu.config.pitchMinMm ≤ s.cmu.config.pitchMaxMm
  blockSize : 1 ≤ s.cmu.blockSize ∧ s.cmu.blockSize ≤ 16
  measures : ∀ m : Fin 16, (s.mse.measures[m]).Lawful s.cmu.config.alignDelay

/-- R129, R130: the rules a limit set meets. -/
structure LimitSet.Lawful (l : LimitSet) : Prop where
  bounds : l.enter1 ≤ 1000000 ∧ l.enter2 ≤ 1000000 ∧ l.enter3 ≤ 1000000 ∧ l.h ≤ 1000000
  debounce : 1 ≤ l.e ∧ l.e ≤ 15 ∧ 1 ≤ l.x ∧ l.x ≤ 15
  length : l.maxLength ≤ 65535
  second : 0 < l.enter2 → 0 < l.enter1 ∧ l.enter1 < l.enter2
  third : 0 < l.enter3 → 0 < l.enter2 ∧ l.enter2 < l.enter3
  hysteresis : 0 < l.enter1 → l.h < l.enter1

/-! ### Odometry -/

/-- R56, R64, R65: the ranges of ODO's state, N being at most one grid step of the widest spacing past D's range. -/
structure Odo.InRange (o : Odo) : Prop where
  odometer : o.d ≤ 1099511627775
  rollback : o.r ≤ 200000000
  point : o.n ≤ 1099511627775 + 1000000
  speed : o.vf ≤ 65535

/-- R57: what a frame event hands to LOC: at most one mark hand-off, then at most four samples or one gap notice. -/
def handOverShape : List OdoItem → Bool
  | .mark _ _ :: rest => gridShape rest
  | l => gridShape l
where
  /-- R57: at most four samples, or one gap notice. -/
  gridShape : List OdoItem → Bool
    | [.gap _] => true
    | l => decide (l.length ≤ 4) && l.all fun x => match x with
      | .sample _ => true
      | _ => false

/-! ### Location -/

/-- R98: neighbours in the section table. -/
def SectionEntry.Precedes (a b : SectionEntry) : Prop := a.start < b.start ∧ a.finish ≤ b.start

/-- R90, R91, R98, R101: the mark table, the section table and the cursor, and the range of the offset (R84). -/
structure Loc.Lawful (l : Loc) : Prop where
  markKeys : l.marks.Pairwise fun a b => a.1 < b.1
  markIds : ∀ p ∈ l.marks, 1 ≤ p.1 ∧ p.1 ≤ 65535 ∧ p.2.window ≤ 65535
  markCount : l.marks.length ≤ 256
  sectionOrder : l.sections.Pairwise SectionEntry.Precedes
  sectionSpan : ∀ x ∈ l.sections, x.start < x.finish
  sectionCount : l.sections.length ≤ 512
  cursor : ∀ k ∈ l.cursor, k ≤ l.sections.length
  offset : -2147483648 ≤ l.offset ∧ l.offset ≤ 2147483647

/-! ### The measure engine -/

/-- R104, R110, R111, R119: the slot an index uses holds it, the newest index is in the history, and every parameter value
and every seeded baseline lies within 1,000,000 counts of 0. -/
structure Mse.Lawful (x : Mse) : Prop where
  slots : ∀ (i : Fin 128) (t : Slot), x.history[i] = some t → t.index.toNat % 128 = i.val
  newest : ∀ i, x.newest = some i → ∃ t, x.history[slotNumber i.toNat] = some t ∧ t.index = i
  values : ∀ (i : Fin 128) (t : Slot), x.history[i] = some t → ∀ p : Fin 10,
    -1000000 ≤ (t.parameters[p]).value ∧ (t.parameters[p]).value ≤ 1000000
  baselines : ∀ (m : Fin 16) (b : Int), x.baselines[m] = some b → -1000000 ≤ b ∧ b ≤ 1000000

/-! ### Detectors, contexts and the open map -/

/-- R133, R140: the law of the detector, the lowest level entered in a rise run once it has a row, and the pending run, which
QUIET holds exactly while a rise has a row. -/
structure Detector.Lawful (d : Detector) (measuring : Bool) : Prop where
  active : d.mode = .active → 1 ≤ d.level ∧ d.level ≤ 3
  inactive : d.mode ≠ .active → d.level = 0
  rise : 0 < d.riseCount → 1 ≤ d.riseMin ∧ d.riseMin ≤ 3
  run : d.mode = .quiet → (d.pendingRun ≠ none ↔ 0 < d.riseCount)
  outside : measuring = false → d.mode = .quiet ∨ d.mode = .disabled

/-- R150, R152, R154: the law of the context pool and of the open map. -/
structure Ext.PoolLawful (x : Ext) (lane : Lane) : Prop where
  freeDistinct : x.free.Nodup
  freeExactly : ∀ c : Fin 32, c ∈ x.free ↔ (x.contexts[c]).state = .free
  postedDistinct : x.posted.Nodup
  postedExactly : ∀ c : Fin 32, c ∈ x.posted ↔ (x.contexts[c]).state = .posted
  openExactly : ∀ c : Fin 32, (x.contexts[c]).state = .opened ↔ ∃ m : Fin 16, x.openMap[m] = .tracked c
  openMeasure : ∀ (m : Fin 16) (c : Fin 32), x.openMap[m] = .tracked c → (x.contexts[c]).record.measure = m
  sendingExactly : ∀ c : Fin 32, (x.contexts[c]).state = .sending ↔ lane = .own (.exception c)

/-- R133, R150, R152, R154: detectors, contexts and the open map agree: a measure's entry is none exactly while its detector
is not ACTIVE. -/
structure State.TrackingLawful (s : State) : Prop where
  detectors : ∀ m : Fin 16, (s.exd.detectors[m]).Lawful s.measuring
  pool : s.ext.PoolLawful s.ltx.lane
  entries : ∀ m : Fin 16, s.ext.openMap[m] = .none ↔ (s.exd.detectors[m]).mode ≠ .active

/-! ### Statistics -/

/-- R178: the ranges of a slot's accumulators, which are clear while no row has counted. -/
structure Accumulators.InRange (a : Accumulators) : Prop where
  n : a.n ≤ 4294967295
  sum : -9223372036854775808 ≤ a.sum ∧ a.sum ≤ 9223372036854775807
  sumSq : a.sumSq ≤ 18446744073709551615
  count : a.count ≤ 4294967295
  peak : a.n = 0 ↔ a.peak = none

/-! ### Row blocks -/

/-- R193: a block that holds rows, no more than its effective size, which fits in one frame. -/
def Block.Lawful (b : Block) : Prop :=
  1 ≤ b.rows.length ∧ b.rows.length ≤ b.effectiveSize ∧ b.effectiveSize ≤ 16 ∧
    6 + b.effectiveSize * (14 + 4 * (maskMeasures b.mask).length) ≤ 1024

/-- R184, R186, R193: the law of the row-block buffers. -/
structure Ltx.BuffersLawful (l : Ltx) : Prop where
  filling : ∀ (i : Fin 2) (b : Block), l.buffers[i] = .filling b → b.Lawful ∧ b.rows.length < b.effectiveSize
  pending : ∀ (i : Fin 2) (b : Block), l.buffers[i] = .pending b → b.Lawful
  sending : ∀ i : Fin 2, (∃ b, l.buffers[i] = .sending b) ↔ l.lane = .own (.rows i)
  oneOpen : ∀ b b', ¬(l.buffers[(0 : Fin 2)] = .filling b ∧ l.buffers[(1 : Fin 2)] = .filling b')
  orderDistinct : l.closedOrder.Nodup
  orderExactly : ∀ i : Fin 2, i ∈ l.closedOrder ↔ ∃ b, l.buffers[i] = .pending b

end Sys2Proof.Machine
end

