-- ==== Sys2Proof/Certificates/Slice0/Obligations.lean ====
section
/-! DEFINITION. The statements about the block, in the order of OBLIGATIONS.json: the queue and the resets, then the blocks
in the order of the manual's chapters, then the invariants that every step keeps. -/

open Sys2Proof Sys2Proof.Machine

/-! ### The queue of waiting commands -/

/-- A step carries out the command at the front of the queue; with nothing waiting it changes nothing (assumption log 2:
the model's choice). -/
def Obligations.FrontCommandRunsAndAnEmptyQueueIdles : Prop :=
  (∀ (c : Instr) (rest : List Instr) (s : State), s.pending = c :: rest → step s = exec c { s with pending := rest }) ∧
    ∀ s : State, s.pending = [] → step s = .next s

/-- Every command of the table answers a next state in every state, and leaves the queue of waiting commands alone
(assumption log 1: a command whose conditions do not hold waits). -/
def Obligations.EveryCommandAnswersAndKeepsTheQueue : Prop :=
  ∀ (c : Instr) (s : State), ∃ t, exec c s = .next t ∧ t.pending = s.pending

/-! ### Resets -/

/-- The reset columns of R4, R16, R18, R22, R23, R33, R35, R41, R42, R56, R84, R90, R98, R104, R106, R116, R128, R129, R133,
R150, R170, R176, R178 and R184 for power-on reset. -/
def Obligations.ResetHoldsThePowerOnValues : Prop :=
  (State.reset.lrx.receiver = .hunt ∧ State.reset.lrx.linkUp = false ∧ State.reset.lrx.intake = [] ∧
    State.reset.lrx.commands = [] ∧
    State.reset.lrx.counters =
      { goodFrames := 0, checkErrors := 0, lengthErrors := 0, framingErrors := 0, abortsReceived := 0, lockLosses := 0,
        returned := 0, sensorOverruns := 0, commandsDropped := 0, unknownKind := 0 }) ∧
  State.reset.cmu =
    { runState := .stopped, runNumber := 0
      config :=
        { spacingMm := 250, pulseUm := 2500, speedBeta := 3, minSpeed := 150, silenceMs := 50, alignDelay := 32,
          defaultBand := 0, pointLen := 8, cyclicCount := 0, pitchMinMm := 10000, pitchMaxMm := 30000, pitchTolMm := 500,
          segmentM := 200, reportDest := 0 }
      streamMask := 0, blockSize := 8, resetPending := none, commandsDiscarded := 0 } ∧
  ((∀ i : Fin 12, State.reset.cal.channels[i] = { enabled := true, gain := 16384, offset := 0, inertial := false } ∧
      State.reset.cal.lastReading[i] = none) ∧
    State.reset.cal.held = none ∧ State.reset.cal.zero = .idle) ∧
  State.reset.odo =
    { d := 0, r := 0, base := none, n := 250000, s := 0, vf := 0, lowSpeed := true, gapPending := false,
      silenceTimer := none, silenceFlag := false, tachFault := false } ∧
  State.reset.loc =
    { located := false, offset := 0, epoch := 0, holdoff := none, marks := [], sections := [], cursor := none } ∧
  ((∀ p : Fin 10, (State.reset.mse.parameters[p]).terms = [] ∧ (State.reset.mse.parameters[p]).k = 0) ∧
    (∀ m : Fin 16, State.reset.mse.measures[m] = .disabled) ∧
    (∀ i : Fin 128, State.reset.mse.history[i] = none) ∧ State.reset.mse.newest = none ∧
    ∀ m : Fin 16, State.reset.mse.baselines[m] = none) ∧
  ((∀ (b : Fin 5) (m : Fin 16), State.reset.exd.limitSet b m =
      { enter1 := 0, enter2 := 0, enter3 := 0, h := 0, sign := .both, e := 1, x := 1, maxLength := 0 }) ∧
    ∀ m : Fin 16, State.reset.exd.detectors[m] =
      { mode := .disabled, level := 0, riseCount := 0, riseMin := 0, pendingRun := none, fallCount := 0, previous := none,
        lastHold := none, runLength := 0, releaseCount := 0 }) ∧
  ((∀ c : Fin 32, (State.reset.ext.contexts[c]).state = .free) ∧ State.reset.ext.free = List.finRange 32 ∧
    (∀ m : Fin 16, State.reset.ext.openMap[m] = .none) ∧ State.reset.ext.posted = [] ∧ State.reset.ext.lost = 0 ∧
    (∀ m : Fin 16, State.reset.ext.rings[m] = []) ∧ State.reset.ext.openCount = 0 ∧ State.reset.ext.openRow = none) ∧
  ((∀ i : Fin 8, State.reset.stu.slots[i] =
      { enabled := false, source := .measure 0, function := .sigma, threshold := 0, invert := false,
        excludeLowSpeed := false } ∧
      State.reset.stu.accumulators[i] = { n := 0, sum := 0, sumSq := 0, count := 0, peak := none, sat := false } ∧
      State.reset.stu.edges[i] = false) ∧
    State.reset.stu.segment = none ∧ State.reset.stu.openAfterStart = false ∧ State.reset.stu.frozen = false) ∧
  (State.reset.ltx.lane = .idle ∧ State.reset.ltx.hold = .hold ∧ State.reset.ltx.alerts = [] ∧
    State.reset.ltx.forward = [] ∧ State.reset.ltx.store = none ∧ State.reset.ltx.responses = [] ∧
    State.reset.ltx.locations = [] ∧ State.reset.ltx.segments = [] ∧
    (∀ i : Fin 2, State.reset.ltx.buffers[i] = .empty) ∧ State.reset.ltx.locationLost = 0 ∧
    State.reset.ltx.segmentLost = 0 ∧ State.reset.ltx.skippedRows = 0 ∧ State.reset.ltx.gapMark = false ∧
    State.reset.ltx.forwardsDropped = 0)

/-- POWER_ON_RESET: the straps are sampled into the station address, every block takes its power-on values and the outbound
lane sends IDLE; the inbound reverse lane shows GO (R1, R37). The line's lock is no part of any block and is kept
(assumption log 6: the model's choice). -/
def Obligations.PowerOnResetSamplesTheStraps : Prop :=
  ∀ (straps : BitVec 6) (s : State), ∃ t, exec (.powerOnReset straps) s = .next t ∧ t.station = straps ∧
    t.lineLock = s.lineLock ∧ t.outbound = s.outbound ++ [.idle] ∧ t.pending = s.pending ∧
    t.lrx = State.reset.lrx ∧ t.cmu = State.reset.cmu ∧ t.cal = State.reset.cal ∧ t.odo = State.reset.odo ∧
    t.loc = State.reset.loc ∧ t.mse = State.reset.mse ∧ t.exd = State.reset.exd ∧ t.ext = State.reset.ext ∧
    t.stu = State.reset.stu ∧ t.ltx = State.reset.ltx ∧ t.links = State.reset.links ∧ t.inboundReverseLane = .go

/-- RESET_WARM and RESET_COLD (R36): reset pending is set and the response placed, and nothing else yet; TRANSMISSION_END of
that response: every block takes its values for that reset, tables and settings kept by RESET WARM and set to their
defaults by RESET COLD (R14, R36, R41, R56, R84, R104, R128, R149, R150, R170, R184). -/
def Obligations.ResetCommandsTakeEffectAtTheEndOfTheirResponse : Prop :=
  (∀ (s : State) (source : Octet) (tag : Half) (rest : List CommandEntry),
    (s.CanTake (commandEntry source false 0x03 tag []) rest →
      exec .resetWarm s = .next
        ({ s.taken rest with cmu := { s.cmu with resetPending := some .warm } }.responded source 0x03 tag .ok [])) ∧
    (s.CanTake (commandEntry source false 0x04 tag []) rest →
      exec .resetCold s = .next
        ({ s.taken rest with cmu := { s.cmu with resetPending := some .cold } }.responded source 0x04 tag .ok []))) ∧
  ∀ (s : State) (r : Response), s.ltx.lane = .own (.response r) → r.status = .ok →
    (r.code = 0x03 ∨ r.code = 0x04 → ∃ t, exec .transmissionEnd s = .next t ∧
      (t.station = s.station ∧ t.lineLock = s.lineLock ∧ t.pending = s.pending ∧ t.outbound = s.outbound ++ [.endFrame]) ∧
      (t.lrx.linkUp = s.lrx.linkUp ∧ t.lrx.intake = [] ∧ t.lrx.commands = [] ∧ t.lrx.counters = .zero ∧
        (s.lrx.receiver = .hunt → t.lrx.receiver = .hunt) ∧ (s.lrx.receiver = .ready → t.lrx.receiver = .ready) ∧
        ∀ f, s.lrx.receiver = .receiving f → t.lrx.receiver = .receiving { f with copyVoid := true }) ∧
      (t.cmu.runState = .stopped ∧ t.cmu.runNumber = 0 ∧ t.cmu.resetPending = none ∧ t.cmu.commandsDiscarded = 0) ∧
      ((∀ i : Fin 12, t.cal.lastReading[i] = none) ∧ t.cal.held = none ∧ t.cal.zero = .idle) ∧
      t.odo = { State.reset.odo with n := 1000 * t.cmu.config.spacingMm } ∧
      (t.loc.located = false ∧ t.loc.offset = 0 ∧ t.loc.epoch = 0 ∧ t.loc.holdoff = none ∧ t.loc.cursor = none) ∧
      ((∀ i : Fin 128, t.mse.history[i] = none) ∧ t.mse.newest = none ∧ ∀ m : Fin 16, t.mse.baselines[m] = none) ∧
      (∀ m : Fin 16, t.exd.detectors[m] =
        { (State.reset.exd.detectors[m]) with mode := if t.mse.measures[m] = .disabled then .disabled else .quiet }) ∧
      t.ext = State.reset.ext ∧
      t.stu = { State.reset.stu with slots := t.stu.slots } ∧
      t.ltx = { State.reset.ltx with hold := s.ltx.hold } ∧
      t.links = State.reset.links ∧
      (r.code = 0x03 → t.cmu.config = s.cmu.config ∧ t.cmu.streamMask = s.cmu.streamMask ∧
        t.cmu.blockSize = s.cmu.blockSize ∧ t.cal.channels = s.cal.channels ∧ t.loc.marks = s.loc.marks ∧
        t.loc.sections = s.loc.sections ∧ t.mse.parameters = s.mse.parameters ∧ t.mse.measures = s.mse.measures ∧
        t.exd.limits = s.exd.limits ∧ t.stu.slots = s.stu.slots) ∧
      (r.code = 0x04 → t.cmu = State.reset.cmu ∧ t.cal = State.reset.cal ∧ t.loc = State.reset.loc ∧
        t.mse = State.reset.mse ∧ t.exd = State.reset.exd ∧ t.stu = State.reset.stu))

/-! ### The frame link receiver -/

/-- IDLE, START, DATA_OCTET, END and ABORT in READY (R6) and in HUNT (the first three lines of R5); LOSS_OF_LOCK (R12), the
arrivals while lock stays lost, and LOCK_ACQUIRED, which only lets arrivals resume. -/
def Obligations.ArrivalsOutsideAFrameAndLossOfLock : Prop :=
  (∀ s : State, s.lineLock = true →
    (s.lrx.receiver = .ready →
      exec .idle s = .next s ∧
      exec .start s = .next { s with lrx := { s.lrx with
        receiver := .receiving { octets := [], header := none, check := 0xFFFF, copyVoid := false } } } ∧
      (∀ b, exec (.dataOctet b) s = .next { s with lrx := { s.lrx with
        receiver := .hunt
        counters := { s.lrx.counters with framingErrors := min (s.lrx.counters.framingErrors + 1) 65535 } } }) ∧
      (∀ c, c = .endFrame ∨ c = .abort → exec c s = .next { s with lrx := { s.lrx with
        counters := { s.lrx.counters with framingErrors := min (s.lrx.counters.framingErrors + 1) 65535 } } })) ∧
    (s.lrx.receiver = .hunt →
      exec .idle s = .next { s with lrx := { s.lrx with receiver := .ready, linkUp := true } } ∧
      exec .start s = .next { s with lrx := { s.lrx with
        receiver := .receiving { octets := [], header := none, check := 0xFFFF, copyVoid := false }, linkUp := true } } ∧
      ∀ c, ((∃ b, c = .dataOctet b) ∨ c = .endFrame ∨ c = .abort) → exec c s = .next s)) ∧
  (∀ s : State, exec .lossOfLock s = .next
    { (if s.lrx.receiver.handed.isSome then s.dropNotice else s) with
      lineLock := false
      lrx := { s.lrx with
        receiver := .hunt
        linkUp := false
        counters := { s.lrx.counters with lockLosses := min (s.lrx.counters.lockLosses + 1) 65535 } } }) ∧
  (∀ s : State, s.lineLock = false →
    ∀ c, ((∃ b, c = .dataOctet b) ∨ c = .idle ∨ c = .start ∨ c = .endFrame ∨ c = .abort) → exec c s = .next s) ∧
  (∀ s : State, exec .lockAcquired s = .next { s with lineLock := true }) ∧
  (∀ s : State, s.lrx.receiver = .hunt → ∀ c, c = .idle ∨ c = .start → ∃ t,
    exec c { s with lineLock := true } = .next t ∧ t.lrx.receiver ≠ .hunt ∧ t.lrx.linkUp = true)

/-- ABORT, IDLE and START in RECEIVING (R11): the count of each, the frame discarded, and a drop notice to LTX first when the
frame was being handed over. -/
def Obligations.ControlSymbolsEndTheOpenFrame : Prop :=
  ∀ (s : State) (f : Assembly), s.lineLock = true → s.lrx.receiver = .receiving f →
    let d := if f.handsOver then s.dropNotice else s
    exec .abort s = .next { d with lrx := { s.lrx with
      receiver := .ready
      counters := { s.lrx.counters with abortsReceived := min (s.lrx.counters.abortsReceived + 1) 65535 } } } ∧
    exec .idle s = .next { d with lrx := { s.lrx with
      receiver := .ready
      counters := { s.lrx.counters with framingErrors := min (s.lrx.counters.framingErrors + 1) 65535 } } } ∧
    exec .start s = .next { d with lrx := { s.lrx with
      receiver := .receiving { octets := [], header := none, check := 0xFFFF, copyVoid := false }
      counters := { s.lrx.counters with framingErrors := min (s.lrx.counters.framingErrors + 1) 65535 } } }

/-- DATA_OCTET in RECEIVING (R7, R9): octets before the header is complete, the octet that completes it with a length above
1,024 or accepted (the disposition by R8, with the frame start notice of R13), later octets, and the overlong frame. That
a header completed after a commanded reset (R14) gives no frame start notice is assumption log 22: the model's choice. -/
def Obligations.DataOctetsBuildTheFrame : Prop :=
  ∀ (s : State) (f : Assembly) (b : Octet), s.lineLock = true → s.lrx.receiver = .receiving f →
    (f.header = none → f.octets.length < 4 →
      exec (.dataOctet b) s = .next { s with lrx := { s.lrx with
        receiver := .receiving { f with octets := f.octets ++ [b], check := checkOctet f.check b } } }) ∧
    (∀ d n k l1, f.header = none → f.octets = [d, n, k, l1] →
      let h : Header :=
        { destination := d, source := n, kind := k, length := l1.toNat * 256 + b.toNat
          disposition := if d = s.stationOctet then .consume else if n = s.stationOctet then .remove
            else if d = 255 then .consumeAndForward else .forward }
      let g : Assembly := { octets := [d, n, k, l1, b], header := some h, check := checkOctet f.check b
                            copyVoid := f.copyVoid }
      let s1 := { s with lrx := { s.lrx with receiver := .receiving g } }
      (1024 < h.length → exec (.dataOctet b) s = .next { s with lrx := { s.lrx with
        receiver := .hunt
        counters := { s.lrx.counters with lengthErrors := min (s.lrx.counters.lengthErrors + 1) 65535 } } }) ∧
      (h.length ≤ 1024 → exec (.dataOctet b) s = .next
        (if (h.disposition = .forward ∨ h.disposition = .consumeAndForward) ∧ f.copyVoid = false
          then s1.frameStartNotice [d, n, k, l1, b] else s1))) ∧
    (∀ h, f.header = some h → f.octets.length + 1 < 8 + h.length →
      let g : Assembly := { f with
        octets := f.octets ++ [b]
        check := if f.octets.length + 1 ≤ 5 + h.length then checkOctet f.check b else f.check }
      let s1 := { s with lrx := { s.lrx with receiver := .receiving g } }
      exec (.dataOctet b) s = .next (if f.handsOver then s1.handOctet b else s1)) ∧
    (∀ h, f.header = some h → 8 + h.length ≤ f.octets.length + 1 →
      exec (.dataOctet b) s = .next { (if f.handsOver then s.dropNotice else s) with lrx := { s.lrx with
        receiver := .hunt
        counters := { s.lrx.counters with framingErrors := min (s.lrx.counters.framingErrors + 1) 65535 } } })

/-- END in RECEIVING (R10): length error, check error, or good, with what follows for each disposition. -/
def Obligations.EndJudgesTheFrame : Prop :=
  ∀ (s : State) (f : Assembly), s.lineLock = true → s.lrx.receiver = .receiving f →
    (f.header = none → exec .endFrame s = .next { s with lrx := { s.lrx with
      receiver := .ready
      counters := { s.lrx.counters with lengthErrors := min (s.lrx.counters.lengthErrors + 1) 65535 } } }) ∧
    ∀ h, f.header = some h →
      let d := if f.handsOver then s.dropNotice else s
      let good : Lrx := { s.lrx with
        receiver := .ready
        counters := { s.lrx.counters with goodFrames := min (s.lrx.counters.goodFrames + 1) 65535 } }
      let e := if f.handsOver then s.endNotice else s
      (f.octets.length ≠ 7 + h.length → exec .endFrame s = .next { d with lrx := { s.lrx with
        receiver := .ready
        counters := { s.lrx.counters with lengthErrors := min (s.lrx.counters.lengthErrors + 1) 65535 } } }) ∧
      (f.octets.length = 7 + h.length → field f.octets (5 + h.length) 2 ≠ f.check.toNat →
        exec .endFrame s = .next { d with lrx := { s.lrx with
          receiver := .ready
          counters := { s.lrx.counters with checkErrors := min (s.lrx.counters.checkErrors + 1) 65535 } } }) ∧
      (f.octets.length = 7 + h.length → field f.octets (5 + h.length) 2 = f.check.toNat →
        (h.disposition = .forward → exec .endFrame s = .next { e with lrx := good }) ∧
        (h.disposition = .remove → exec .endFrame s = .next { e with lrx := { good with
          counters := { good.counters with returned := min (good.counters.returned + 1) 65535 } } }) ∧
        (h.disposition = .consume ∨ h.disposition = .consumeAndForward →
          exec .endFrame s = .next { e with lrx := good.consume h ((f.octets.drop 5).take h.length) }))

/-- What a consumed good frame becomes, by its kind (R15): a SENSOR frame at the intake queue, which joins a queue with room
and replaces the tail entry of a full one (R16, R17), a COMMAND frame at a full or at a not yet full command queue (R18,
R19), and any other kind; and the entry that the 38 octets of a SENSOR payload make (R16, R196). -/
def Obligations.GoodFramesAreConsumedByKind : Prop :=
  (∀ (l : Lrx) (h : Header) (p : List Octet),
    (h.kind = 0x31 → p.length = 38 → l.consume h p = l.takeSensor (sensorEntry p)) ∧
    (h.kind = 0x31 → p.length ≠ 38 → l.consume h p = { l with
      counters := { l.counters with lengthErrors := min (l.counters.lengthErrors + 1) 65535 } }) ∧
    (h.kind = 0x32 → l.commands.length < 4 → l.consume h p = { l with
      commands := l.commands ++ [{ source := h.source, broadcast := decide (h.destination = 255), payload := p }] }) ∧
    (h.kind = 0x32 → 4 ≤ l.commands.length → l.consume h p = { l with
      counters := { l.counters with commandsDropped := min (l.counters.commandsDropped + 1) 65535 } }) ∧
    (h.kind ≠ 0x31 → h.kind ≠ 0x32 → l.consume h p = { l with
      counters := { l.counters with unknownKind := min (l.counters.unknownKind + 1) 65535 } })) ∧
  (∀ (l : Lrx) (e : SensorEntry), l.intake.length < 8 → l.takeSensor e = { l with intake := l.intake ++ [e] }) ∧
  (∀ (l : Lrx) (e old : SensorEntry) (older : List SensorEntry), l.intake = older ++ [old] → 8 ≤ l.intake.length →
    l.takeSensor e = { l with
      intake := older ++
        [{ e with overrun := true, markId := if e.markId = none then old.markId else e.markId }]
      counters := { l.counters with sensorOverruns := min (l.counters.sensorOverruns + 1) 65535 } }) ∧
  ∀ p : List Octet, p.length = 38 →
    let e := sensorEntry p
    let octet (i : Nat) : Nat := (p.getD i 0).toNat
    let pair (i : Nat) : Nat := 256 * octet i + octet (i + 1)
    let quad (i : Nat) : Nat := 65536 * pair i + pair (i + 2)
    e.tach.toNat = quad 0 ∧ e.timestamp.toNat = quad 4 ∧ e.sequence.toNat = pair 8 ∧
      e.markId = (if pair 10 = 0 then none else some (pair 10)) ∧
      (∀ n : Fin 12, e.sensorValid.getLsbD n.val = (pair 12).testBit n.val) ∧
      (∀ n : Fin 12, e.raw[n] = if pair (14 + 2 * n.val) < 32768 then (pair (14 + 2 * n.val) : Int)
        else (pair (14 + 2 * n.val) : Int) - 65536) ∧
      e.overrun = false

/-- R3: a frame whose check word follows it leaves the check register at 0, whatever its octets. -/
def Obligations.CheckWordClosesItsFrame : Prop :=
  ∀ os : List Octet, checkWord (os ++ octetsOf 2 (checkWord os).toNat) = 0

/-- R2, R3, R7, R8, R10, R13, R15, R18, R190, R191, R196: the symbols of a COMMAND frame assembled as LTX assembles frames,
arriving one by one from READY, put exactly its source, broadcast mark and payload at the tail of the command queue: a
frame to the part's own address, and a broadcast one from another station, which is passed on whole too. (The lane carries
no cut-through copy in READY: TheReceiverAndItsCopyStayCoherent.) -/
def Obligations.AssembledCommandFrameIsReceivedWhole : Prop :=
  ∀ (s : State) (source : Octet) (payload : List Octet) (rest : List Instr),
    s.lineLock = true → s.lrx.receiver = .ready → s.lrx.commands.length < 4 → payload.length ≤ 1024 →
    let arriving (destination : Octet) : List Instr :=
      .start :: ((frameOctets destination source 0x32 payload).map Instr.dataOctet ++ .endFrame :: rest)
    let received (broadcast : Bool) : State := { s with
      lrx := { s.lrx with
        commands := s.lrx.commands ++ [{ source := source, broadcast := broadcast, payload := payload }]
        counters := { s.lrx.counters with goodFrames := min (s.lrx.counters.goodFrames + 1) 65535 } }
      pending := rest }
    let frame := frameOctets 255 source 0x32 payload
    let cutsThrough : Prop := s.ltx.lane = .idle ∧ s.ltx.hold = .go ∧ s.ltx.forward = [] ∧ s.ltx.alerts = []
    (s.pending = arriving s.stationOctet →
      Host.Core.run Sys2Proof.core (payload.length + 9) s = .next (received false)) ∧
    (s.pending = arriving 255 → source ≠ s.stationOctet → s.ltx.lane ≠ .cutThrough →
      (cutsThrough → Host.Core.run Sys2Proof.core (payload.length + 9) s = .next { received true with
        outbound := s.outbound ++ .start :: (frame.map .octet ++ [.endFrame]) }) ∧
      (¬cutsThrough → s.ltx.forward.length < 4 → Host.Core.run Sys2Proof.core (payload.length + 9) s = .next
        { received true with ltx := { s.ltx with forward := s.ltx.forward ++ [frame], store := none } }) ∧
      (¬cutsThrough → 4 ≤ s.ltx.forward.length → Host.Core.run Sys2Proof.core (payload.length + 9) s = .next
        { received true with ltx := { s.ltx with
          forwardsDropped := min (s.ltx.forwardsDropped + 1) 65535, store := none } }))

/-- The copy of a frame passed on (R190, R191): the decision at the frame start notice, the octets handed over, and the end
and drop notices, for a cut-through copy and for a stored frame. While a copy holds the lane the arbiter takes nothing. -/
def Obligations.FramesArePassedOnWholeOrAborted : Prop :=
  (∀ (s : State) (head : List Octet),
    (s.ltx.lane = .idle ∧ s.ltx.hold = .go ∧ s.ltx.forward = [] ∧ s.ltx.alerts = [] →
      s.frameStartNotice head = { s with
        ltx := { s.ltx with lane := .cutThrough }
        outbound := s.outbound ++ .start :: head.map .octet }) ∧
    (¬(s.ltx.lane = .idle ∧ s.ltx.hold = .go ∧ s.ltx.forward = [] ∧ s.ltx.alerts = []) →
      s.frameStartNotice head = { s with ltx := { s.ltx with store := some head } })) ∧
  (∀ s : State, s.ltx.lane = .cutThrough →
    (∀ b, s.handOctet b = { s with outbound := s.outbound ++ [.octet b] }) ∧
    s.endNotice = { s with ltx := { s.ltx with lane := .idle }, outbound := s.outbound ++ [.endFrame] } ∧
    s.dropNotice = { s with ltx := { s.ltx with lane := .idle }, outbound := s.outbound ++ [.abort] } ∧
    exec .arbiterChoice s = .next s) ∧
  ∀ (s : State) (f : List Octet), s.ltx.lane ≠ .cutThrough → s.ltx.store = some f →
    (∀ b, s.handOctet b = { s with ltx := { s.ltx with store := some (f ++ [b]) } }) ∧
    (s.ltx.forward.length < 4 →
      s.endNotice = { s with ltx := { s.ltx with forward := s.ltx.forward ++ [f], store := none } }) ∧
    (4 ≤ s.ltx.forward.length → s.endNotice = { s with ltx := { s.ltx with
      forwardsDropped := min (s.ltx.forwardsDropped + 1) 65535, store := none } }) ∧
    s.dropNotice = { s with ltx := { s.ltx with store := none } }

/-! ### The command unit -/

/-- COMMAND_DISCARDED and UNKNOWN_COMMAND (R25, R26, cases 1 to 3): a payload too short, a broadcast of a code that is not
executed when broadcast, and a code that names no command. A host command that cannot be taken waits where it stands
(R25): a reset is pending, the response queue has no free place for the response of a command addressed to the part, or
the head entry is another command. -/
def Obligations.EntriesAreTakenDiscardedOrWait : Prop :=
  ((∀ (s : State) (e : CommandEntry) (rest : List CommandEntry), s.CanTake e rest →
    (e.payload.length < 3 ∨
      (e.broadcast = true ∧ ∃ code tag args, e.payload = commandPayload code tag args ∧ code ∉ broadcastCodes)) →
    exec .commandDiscarded s = .next (s.taken rest).discarded) ∧
  ∀ (s : State) (source code : Octet) (tag : Half) (args : List Octet) (rest : List CommandEntry),
    s.CanTake (commandEntry source false code tag args) rest → code ∉ commandCodes →
    exec .unknownCommand s = .next ((s.taken rest).responded source code tag .unknown [])) ∧
  ∀ (i : Instr) (s : State), (isPlainCommand i = true ∨ i = .zero ∨ i = .commandDiscarded ∨ i = .unknownCommand) →
    (s.cmu.resetPending ≠ none ∨ s.lrx.commands = [] ∨
      (∃ e rest, s.lrx.commands = e :: rest ∧ ((e.broadcast = false ∧ 4 ≤ s.ltx.responses.length) ∨ e.row ≠ i))) →
    exec i s = .next s

/-- Every command of section 2.4 but ZERO, refused for its length or for the run state (R26, cases 4 and 5, R27): the
response of one addressed to the part, the count of a broadcast one, and nothing else. -/
def Obligations.WrongLengthOrRunStateIsRefused : Prop :=
  ∀ (i : Instr) (octets : Nat) (s : State) (source code : Octet) (broadcast : Bool) (tag : Half) (args : List Octet)
    (rest : List CommandEntry),
    isPlainCommand i = true → commandCode? code = some (i, octets) → (broadcast = true → code ∈ broadcastCodes) →
    s.CanTake (commandEntry source broadcast code tag args) rest →
    (args.length ≠ octets → exec i s = .next
      (if broadcast then (s.taken rest).discarded else (s.taken rest).responded source code tag .length [])) ∧
    (args.length = octets → ¬acceptedIn i s.cmu.runState → exec i s = .next
      (if broadcast then (s.taken rest).discarded else (s.taken rest).responded source code tag .state []))

/-- IDENTIFY (R38) and READ CONFIG (R35) with the layout of R196, the cause octet carried in every run state (assumption log
11: the model's choice); READ STATUS (R22, R39): the snapshot, and what its clear option then sets to 0. The octet for
reset pending and the widths of the context counts are the model's choice (assumption log 11), as is the refusal of a
clear option that is neither no nor yes (assumption log 16). -/
def Obligations.IdentifyReadConfigAndReadStatusReport : Prop :=
  (∀ (s : State) (source : Octet) (tag : Half) (rest : List CommandEntry),
    (s.CanTake (commandEntry source false 0x01 tag []) rest →
      exec .identify s = .next ((s.taken rest).responded source 0x01 tag .ok
        (octetsOf 2 83 ++ octetsOf 2 620 ++ octetsOf 1 1 ++ octetsOf 1 s.station.toNat ++ runStateCodes s.cmu.runState))) ∧
    (s.CanTake (commandEntry source false 0x21 tag []) rest →
      exec .readConfig s = .next ((s.taken rest).responded source 0x21 tag .ok
        (configArguments s.cmu.config s.cmu.config.defaultBand.val)))) ∧
  ∀ (s : State) (source clear : Octet) (tag : Half) (rest : List CommandEntry),
    s.CanTake (commandEntry source false 0x02 tag [clear]) rest →
    let report : List Octet :=
      runStateCodes s.cmu.runState ++ [(0 : Octet)] ++ octetsOf 2 s.cmu.commandsDiscarded ++
        [(match s.lrx.receiver with | .hunt => 0 | .ready => 1 | .receiving _ => 2 : Octet)] ++ [(if s.lrx.linkUp then 1 else 0 : Octet)] ++
        octetsOf 2 s.lrx.counters.goodFrames ++ octetsOf 2 s.lrx.counters.checkErrors ++
        octetsOf 2 s.lrx.counters.lengthErrors ++ octetsOf 2 s.lrx.counters.framingErrors ++
        octetsOf 2 s.lrx.counters.abortsReceived ++ octetsOf 2 s.lrx.counters.lockLosses ++
        octetsOf 2 s.lrx.counters.returned ++ octetsOf 2 s.lrx.counters.sensorOverruns ++
        octetsOf 2 s.lrx.counters.commandsDropped ++ octetsOf 2 s.lrx.counters.unknownKind ++
        octetsOf 2 s.ltx.forwardsDropped ++
        octetsOf 4 (s.odo.d / 1000 : Nat) ++ octetsOf 4 (s.odo.r / 1000 : Nat) ++ octetsOf 4 s.odo.s.toNat ++
        octetsOf 2 s.odo.vf ++ [(if s.odo.lowSpeed then 1 else 0 : Octet)] ++ [(if s.odo.silenceFlag then 1 else 0 : Octet)] ++
        [(if s.loc.located then 1 else 0 : Octet)] ++ octetsOf 1 s.loc.epoch.toNat ++ octetsOf 4 s.loc.offset ++
        octetsOf 2 s.loc.sections.length ++ octetsOf 2 (match s.loc.cursor with | some k => (k : Int) | none => 65535) ++
        octetsOf 2 s.loc.marks.length ++
        octetsOf 2 (s.ext.countIn .free) ++ octetsOf 2 (s.ext.countIn .opened) ++ octetsOf 2 (s.ext.countIn .posted) ++
        [(if s.stu.frozen then 1 else 0 : Octet)] ++ [(if s.cal.zero = .idle then 0 else 1 : Octet)]
    (clear = 0 → exec .readStatus s = .next ((s.taken rest).responded source 0x02 tag .ok report)) ∧
    (clear = 1 → ∃ t, exec .readStatus s = .next (t.responded source 0x02 tag .ok report) ∧
      t = { s.taken rest with
        lrx := { (s.taken rest).lrx with counters := .zero }
        cmu := { s.cmu with commandsDiscarded := 0 }
        ltx := { s.ltx with forwardsDropped := 0 } }) ∧
    (clear ≠ 0 → clear ≠ 1 → exec .readStatus s = .next ((s.taken rest).responded source 0x02 tag .badArg []))

/-- SET CONFIG in STOPPED (R33) with the layout of R196: a field out of its range, a failed cross-check, and the whole record
replaced. -/
def Obligations.SetConfigChecksThenReplacesTheRecord : Prop :=
  ∀ (s : State) (source : Octet) (tag : Half) (rest : List CommandEntry) (c : ConfigRecord) (band : Nat),
    s.CanTake (commandEntry source false 0x20 tag (configArguments c band)) rest → s.cmu.runState = .stopped →
    c.Carried → band < 256 →
    let crossChecks := (∀ (m : Fin 16) (p : Fin 10) (l : Nat),
        s.mse.measures[m] = .chord p l ∨ s.mse.measures[m] = .twist p l → l / 2 ≤ c.alignDelay) ∧
      c.pitchMinMm ≤ c.pitchMaxMm
    (¬(c.InRange ∧ band < 5) →
      exec .setConfig s = .next ((s.taken rest).responded source 0x20 tag .badArg [])) ∧
    (c.InRange → band < 5 → ¬crossChecks →
      exec .setConfig s = .next ((s.taken rest).responded source 0x20 tag .badTable [])) ∧
    (c.InRange → crossChecks → ∀ h : band < 5,
      exec .setConfig s = .next ({ s.taken rest with
        cmu := { s.cmu with config := { c with defaultBand := ⟨band, h⟩ } } }.responded source 0x20 tag .ok []))

/-- SET STREAM (R35, R194): the settings replaced in any run state, and the OPEN row block closed when either changes. -/
def Obligations.SetStreamReplacesTheSettings : Prop :=
  ∀ (s : State) (source : Octet) (tag mask : Half) (size : Nat) (rest : List CommandEntry), size < 256 →
    s.CanTake (commandEntry source false 0x22 tag (octetsOf 2 mask.toNat ++ octetsOf 1 size)) rest →
    (size = 0 ∨ 16 < size → exec .setStream s = .next ((s.taken rest).responded source 0x22 tag .badArg [])) ∧
    (1 ≤ size → size ≤ 16 →
      exec .setStream s = .next ({ s.taken rest with
        cmu := { s.cmu with streamMask := mask, blockSize := size }
        ltx := if mask = s.cmu.streamMask ∧ size = s.cmu.blockSize then s.ltx else s.ltx.closeBlock
        }.responded source 0x22 tag .ok []))

/-- START_COMMAND in STOPPED with no ZERO collecting (R28, R53, R81, R95, R112, R148, R168, R171, R194): what the start notice
does at every block; and RESUME in SUSPENDED, with either cause (R32, R82, R95). -/
def Obligations.StartAndResumeEnterMeasuring : Prop :=
  (∀ (s : State) (source : Octet) (broadcast : Bool) (tag : Half) (rest : List CommandEntry),
    s.CanTake (commandEntry source broadcast 0x10 tag []) rest → s.cmu.runState = .stopped →
    (∀ z, s.cal.zero ≠ .collecting z) →
    let queued : Ltx :=
      if 0 < s.odo.r then
        s.ltx.offerLocation { kind := .locationLost s.loc.located, measured := (s.odo.d / 1000 : Nat)
                              offset := s.loc.offset, epoch := s.loc.epoch, located := false, lost := 0 }
      else s.ltx
    exec .startCommand s = .next ({ s.taken rest with
      cmu := { s.cmu with runState := .measuring, runNumber := s.cmu.runNumber + 1 }
      odo := { s.odo with r := 0, n := s.odo.d + 1000 * s.cmu.config.spacingMm, s := 0, gapPending := false }
      loc := if 0 < s.odo.r then { s.loc with located := false, cursor := none } else s.loc
      mse := { s.mse with
        history := Vector.replicate 128 none, newest := none, baselines := Vector.replicate 16 none }
      exd := { s.exd with detectors := Vector.ofFn fun m : Fin 16 =>
        if (s.exd.detectors[m]).mode = DetectorMode.disabled then s.exd.detectors[m] else .cleared .quiet }
      ext := { s.ext with rings := Vector.replicate 16 [], openCount := 0, openRow := none }
      stu := { s.stu with
        accumulators := Vector.replicate 8 .zero, edges := Vector.replicate 8 false, segment := none
        openAfterStart := true }
      ltx := { queued with
        buffers := Vector.ofFn fun i : Fin 2 => match s.ltx.buffers[i] with | .filling _ => .empty | b => b
        gapMark := false } }.answeredOk broadcast source 0x10 tag [])) ∧
  ∀ (s : State) (source : Octet) (broadcast : Bool) (tag : Half) (rest : List CommandEntry) (cause : SuspendCause),
    s.CanTake (commandEntry source broadcast 0x13 tag []) rest → s.cmu.runState = .suspended cause →
    exec .resume s = .next ({ s.taken rest with
      cmu := { s.cmu with runState := .measuring, runNumber := s.cmu.runNumber + 1 }
      odo := { s.odo with r := 0, gapPending := true }
      loc := if 0 < s.odo.r then { s.loc with located := false, cursor := none } else s.loc
      ltx :=
        if 0 < s.odo.r then
          s.ltx.offerLocation { kind := .locationLost s.loc.located, measured := (s.odo.d / 1000 : Nat)
                                offset := s.loc.offset, epoch := s.loc.epoch, located := false, lost := 0 }
        else s.ltx }.answeredOk broadcast source 0x13 tag [])

/-- STOP (R29, R148, R165, R175, R194): in STOPPED it changes nothing else; otherwise every detector is reset, every open
exceedance ends, the segment in progress is closed TRUNCATED with its record offered, and the row block is closed. SUSPEND
in MEASURING (R30), and the reverse-limit request (R31, R96): taken while it is in force it suspends with cause REVERSE and
LOC emits REVERSE_SUSPEND; in any other case it is void. -/
def Obligations.StopAndSuspensionsEndTheOpenExceedances : Prop :=
  (∀ (s : State) (source : Octet) (broadcast : Bool) (tag : Half) (rest : List CommandEntry),
    s.CanTake (commandEntry source broadcast 0x11 tag []) rest →
    (s.cmu.runState = .stopped →
      exec .stop s = .next ((s.taken rest).answeredOk broadcast source 0x11 tag [])) ∧
    (s.cmu.runState ≠ .stopped →
      exec .stop s = .next ({ s.taken rest with
        cmu := { s.cmu with runState := .stopped }
        exd := { s.exd with detectors := Vector.ofFn fun m : Fin 16 =>
          if (s.exd.detectors[m]).mode = DetectorMode.disabled then s.exd.detectors[m] else .cleared .quiet }
        ext := s.ext.truncate s.cmu.config
        stu := { s.stu with segment := none }
        ltx :=
          (match s.stu.segment with
            | none => s.ltx
            | some g => s.ltx.offerSegment (s.stu.segmentRecord { g with truncated := true })).closeBlock
        }.answeredOk broadcast source 0x11 tag []))) ∧
  (∀ (s : State) (source : Octet) (broadcast : Bool) (tag : Half) (rest : List CommandEntry),
    s.CanTake (commandEntry source broadcast 0x12 tag []) rest → s.cmu.runState = .measuring →
    exec .suspend s = .next ({ s.taken rest with
      cmu := { s.cmu with runState := .suspended .command }
      exd := { s.exd with detectors := Vector.ofFn fun m : Fin 16 =>
        if (s.exd.detectors[m]).mode = DetectorMode.disabled then s.exd.detectors[m] else .cleared .quiet }
      ext := s.ext.truncate s.cmu.config
      ltx := s.ltx.closeBlock }.answeredOk broadcast source 0x12 tag [])) ∧
  ∀ (s : State) (run : BitVec 8), s.links.reverseRequest = some run →
    (s.cmu.runState = .measuring → run = s.cmu.runNumber →
      exec .reverseLimitRequest s = .next { s with
        cmu := { s.cmu with runState := .suspended .reverse }
        exd := { s.exd with detectors := Vector.ofFn fun m : Fin 16 =>
          if (s.exd.detectors[m]).mode = DetectorMode.disabled then s.exd.detectors[m] else .cleared .quiet }
        ext := s.ext.truncate s.cmu.config
        ltx := s.ltx.closeBlock.offerLocation
          { kind := .reverseSuspend, measured := (s.odo.d / 1000 : Nat), offset := s.loc.offset, epoch := s.loc.epoch
            located := s.loc.located, lost := 0 }
        links := { s.links with reverseRequest := none } }) ∧
    (¬(s.cmu.runState = .measuring ∧ run = s.cmu.runNumber) →
      exec .reverseLimitRequest s = .next { s with links := { s.links with reverseRequest := none } })

/-- R24: what a stage does with a sample, a row or a gap notice when the run state is not MEASURING or the item carries
another run number: it takes it and does nothing else. LOC and MSE take an item when their next stage has room for it
(R85, R105). -/
def Obligations.StaleWorkIsDiscardedAtEveryStage : Prop :=
  ∀ (s : State) (run : BitVec 8), ¬(s.cmu.runState = .measuring ∧ run = s.cmu.runNumber) →
    (∀ (x : Sample) (rest : List OdoItem), s.links.odoToLoc = .sample x :: rest → s.links.locToMse = none → x.run = run →
      exec .locSample s = .next { s with links := { s.links with odoToLoc := rest } }) ∧
    (∀ rest : List OdoItem, s.links.odoToLoc = .gap run :: rest → s.links.locToMse = none →
      exec .locGapNotice s = .next { s with links := { s.links with odoToLoc := rest } }) ∧
    (∀ y : LocatedSample, s.links.locToMse = some (.sample y) → s.links.rowsTaken = true → y.sample.run = run →
      exec .sampleEvent s = .next { s with links := { s.links with locToMse := none } }) ∧
    (s.links.locToMse = some (.gap run) → s.links.rowsTaken = true →
      exec .gapEvent s = .next { s with links := { s.links with locToMse := none } }) ∧
    (∀ (x : Row) (rest : List RowItem), s.links.mseToExd = .row x :: rest → x.run = run →
      exec .rowEvent s = .next { s with links := { s.links with mseToExd := rest } }) ∧
    (∀ rest : List RowItem, s.links.mseToExd = .gap run :: rest →
      exec .exdGapNotice s = .next { s with links := { s.links with mseToExd := rest } }) ∧
    (∀ (x : Row) (rest : List RowItem), s.links.mseToStu = .row x :: rest → x.run = run →
      exec .stuRowEvent s = .next { s with links := { s.links with mseToStu := rest } }) ∧
    (∀ rest : List RowItem, s.links.mseToStu = .gap run :: rest →
      exec .stuGapNotice s = .next { s with links := { s.links with mseToStu := rest } }) ∧
    (∀ (x : Row) (rest : List RowItem), s.links.mseToLtx = .row x :: rest → x.run = run →
      exec .ltxRow s = .next { s with links := { s.links with mseToLtx := rest } }) ∧
    ∀ rest : List RowItem, s.links.mseToLtx = .gap run :: rest →
      exec .ltxGapNotice s = .next { s with links := { s.links with mseToLtx := rest } }

/-- R23: the run number rises by one, modulo 256, exactly where the run state enters MEASURING, and otherwise changes only
at a reset, which sets it to 0. -/
def Obligations.RunNumberCountsTheEntriesIntoMeasuring : Prop :=
  ∀ (c : Instr) (s t : State), exec c s = .next t → (∀ straps, c ≠ .powerOnReset straps) →
    ¬(c = .transmissionEnd ∧ ∃ r, s.ltx.lane = .own (.response r) ∧ r.resets ≠ none) →
    t.cmu.runNumber =
      if s.cmu.runState ≠ .measuring ∧ t.cmu.runState = .measuring then s.cmu.runNumber + 1 else s.cmu.runNumber

/-- R26, R34, R48, R49, R53, R104, R116, R176: a ZERO collects only in STOPPED; and outside STOPPED, with none collecting, no
command changes the configuration record, the channel table, the parameter and measure tables or the slot table, but for
power-on reset and the reset a RESET COLD response brings. -/
def Obligations.TablesOfARunAreFixedOutsideStopped : Prop :=
  (∀ s t : State, ((∃ z, s.cal.zero = .collecting z) → s.cmu.runState = .stopped) → step s = .next t →
    (∃ z, t.cal.zero = .collecting z) → t.cmu.runState = .stopped) ∧
  ∀ (c : Instr) (s t : State), exec c s = .next t → s.cmu.runState ≠ .stopped → (∀ z, s.cal.zero ≠ .collecting z) →
    (∀ straps, c ≠ .powerOnReset straps) →
    ¬(c = .transmissionEnd ∧ ∃ r, s.ltx.lane = .own (.response r) ∧ r.resets = some .cold) →
    t.cmu.config = s.cmu.config ∧ t.cal.channels = s.cal.channels ∧ t.mse.parameters = s.mse.parameters ∧
      t.mse.measures = s.mse.measures ∧ t.stu.slots = s.stu.slots

/-! ### Rounding -/

/-- 00_scope.md, "Rounding": nearest rounds to the nearest integer, halves away from zero; trunc truncates toward zero;
isqrt is the floor of the integer square root; clamp limits to a range. -/
def Obligations.RoundingFollowsTheManual : Prop :=
  (∀ a b : Int, 0 < b → 2 * |a - b * nearest a b| ≤ b ∧ (2 * |a - b * nearest a b| = b → |a| < |b * nearest a b|)) ∧
  (∀ a b : Int, 0 < b → |b * trunc a b| ≤ |a| ∧ |a - b * trunc a b| < b ∧ 0 ≤ a * trunc a b) ∧
  (∀ x : Nat, isqrt x * isqrt x ≤ x ∧ x < (isqrt x + 1) * (isqrt x + 1)) ∧
  ∀ x a b : Int, a ≤ b → a ≤ clamp x a b ∧ clamp x a b ≤ b ∧ (a ≤ x → x ≤ b → clamp x a b = x) ∧
    (x < a → clamp x a b = a) ∧ (b < x → clamp x a b = b)

/-! ### The channel calibrator -/

/-- FRAME_TAKE with no ZERO collecting (R44 to R47): the head entry leaves the intake queue, its calibrated record is held for
ODO, and every channel's last reading is renewed; with no entry, or with a record still held, nothing happens. -/
def Obligations.FrameTakeCalibratesTheHeadEntry : Prop :=
  ∀ s : State,
    (s.lrx.intake = [] ∨ s.cal.held ≠ none → exec .frameTake s = .next s) ∧
    ∀ (e : SensorEntry) (rest : List SensorEntry), s.lrx.intake = e :: rest → s.cal.held = none →
      (∀ z, s.cal.zero ≠ .collecting z) →
      let value : Fin 12 → Quantity := fun i =>
        let q := nearest ((e.raw[i] - (s.cal.channels[i]).offset) * (s.cal.channels[i]).gain) 16384
        if (s.cal.channels[i]).enabled = true ∧ e.sensorValid.getLsbD i.val = true then
          { value := max (-32768) (min q 32767), valid := true, saturated := decide (q < -32768 ∨ 32767 < q) }
        else { value := 0, valid := false, saturated := false }
      exec .frameTake s = .next { s with
        lrx := { s.lrx with intake := rest }
        cal := { s.cal with
          held := some
            { tach := e.tach, timestamp := e.timestamp, sequence := e.sequence, markId := e.markId, overrun := e.overrun
              channels := Vector.ofFn value }
          lastReading := Vector.ofFn fun i => some { raw := e.raw[i], quantity := value i } } }

/-- WRITE CHANNEL in STOPPED (R42) and READ CHANNEL (R43), with the layouts of R196. That BAD_ARG is answered before BUSY where
both apply is assumption log 29, and that bit n of ZERO's mask names Cn is assumption log 31: both the model's choice. -/
def Obligations.ChannelEntriesAreWrittenAndRead : Prop :=
  (∀ (s : State) (source : Octet) (tag : Half) (rest : List CommandEntry) (i enabled inertial : Nat) (gain offset : Int),
    i < 256 → enabled < 256 → inertial < 256 → -32768 ≤ gain → gain ≤ 32767 → -32768 ≤ offset → offset ≤ 32767 →
    s.CanTake (commandEntry source false 0x30 tag (octetsOf 1 i ++ (octetsOf 1 enabled ++ (octetsOf 2 gain ++
      (octetsOf 2 offset ++ octetsOf 1 inertial))))) rest → s.cmu.runState = .stopped →
    (12 ≤ i ∨ 2 ≤ enabled ∨ 2 ≤ inertial →
      exec .writeChannel s = .next ((s.taken rest).responded source 0x30 tag .badArg [])) ∧
    ∀ h : i < 12, enabled < 2 → inertial < 2 →
      ((∃ z, s.cal.zero = .collecting z ∧ z.mask.getLsbD i = true) →
        exec .writeChannel s = .next ((s.taken rest).responded source 0x30 tag .busy [])) ∧
      ((∀ z, s.cal.zero = .collecting z → z.mask.getLsbD i = false) →
        exec .writeChannel s = .next ({ s.taken rest with cal := { s.cal with
          channels := s.cal.channels.set i
            { enabled := decide (enabled = 1), gain := gain, offset := offset, inertial := decide (inertial = 1) } h }
          }.responded source 0x30 tag .ok []))) ∧
  ∀ (s : State) (source : Octet) (tag : Half) (rest : List CommandEntry) (i : Nat), i < 256 →
    s.CanTake (commandEntry source false 0x31 tag (octetsOf 1 i)) rest →
    (12 ≤ i → exec .readChannel s = .next ((s.taken rest).responded source 0x31 tag .badArg [])) ∧
    ∀ h : i < 12,
      let c := s.cal.channels[i]
      let entry : List Octet := [(if c.enabled then 1 else 0 : Octet)] ++ octetsOf 2 c.gain ++ octetsOf 2 c.offset ++
        [(if c.inertial then 1 else 0 : Octet)]
      (s.cal.lastReading[i] = none → exec .readChannel s = .next
        ((s.taken rest).responded source 0x31 tag .ok (entry ++ [0, 0, 0, 0, 0, 0, 0]))) ∧
      ∀ r, s.cal.lastReading[i] = some r → exec .readChannel s = .next
        ((s.taken rest).responded source 0x31 tag .ok (entry ++ [(1 : Octet)] ++ octetsOf 2 r.raw ++
          octetsOf 2 r.quantity.value ++ [(if r.quantity.valid then 1 else 0 : Octet)] ++
          [(if r.quantity.saturated then 1 else 0 : Octet)]))

/-- ZERO (R49, R54): its refusals, each answered at once with the results of ZERO, and its acceptance, answered later. That the
response carries its status once, as the status octet (assumption log 10), and each offset in 2 octets (assumption log
30), and that bit n of the mask names Cn (assumption log 31) is the model's choice. -/
def Obligations.ZeroIsRefusedAtOnceOrCollects : Prop :=
  (∀ (s : State) (source : Octet) (tag : Half) (args : List Octet) (rest : List CommandEntry),
    s.CanTake (commandEntry source false 0x32 tag args) rest → args.length ≠ 2 →
    exec .zero s = .next ((s.taken rest).answeredWith
      (zeroAnswer source tag .length 0 0 (Vector.replicate 12 0) (s.cal.channels.map ChannelEntry.offset)))) ∧
  ∀ (s : State) (source : Octet) (tag mask : Half) (rest : List CommandEntry),
    s.CanTake (commandEntry source false 0x32 tag (octetsOf 2 mask.toNat)) rest →
    let refused (status : Status) : State := (s.taken rest).answeredWith
      (zeroAnswer source tag status mask 0 (Vector.replicate 12 0) (s.cal.channels.map ChannelEntry.offset))
    let bad := mask = 0 ∨ 4096 ≤ mask.toNat ∨
      ∃ i : Fin 12, mask.getLsbD i.val = true ∧ (s.cal.channels[i]).enabled = false
    (s.cmu.runState ≠ .stopped → exec .zero s = .next (refused .state)) ∧
    (s.cmu.runState = .stopped → s.cal.zero ≠ .idle → exec .zero s = .next (refused .busy)) ∧
    (s.cmu.runState = .stopped → s.cal.zero = .idle → bad → exec .zero s = .next (refused .badArg)) ∧
    (s.cmu.runState = .stopped → s.cal.zero = .idle → ¬bad →
      let z : ZeroCollection :=
        { mask := mask.setWidth 12, tag := tag, source := source, counts := Vector.replicate 12 0
          sums := Vector.replicate 12 0, timeoutMs := 2000 }
      exec .zero s = .next { s.taken rest with cal := { s.cal with zero := .collecting z } })

/-- The end of a ZERO (R50 to R54), whatever ended it: FRAME_TAKE that brings the last masked channel to 64, ZERO_TIMEOUT,
ZERO_RESPONSE_PLACED for a response that had to wait, and START, which aborts it. The model's choices are that START's own
response goes first (assumption log 9), and of the response's octets that its status stands once (assumption log 10), that
each offset takes 2 octets (assumption log 30), and that bit n of the mask and of the completed set names Cn (assumption
log 31). -/
def Obligations.ZeroEndsWithItsOffsetsAndItsResponse : Prop :=
  let finished (s t : State) (z : ZeroCollection) (status : Status) : Prop :=
    ∃ completed : BitVec 12, (∀ i : Fin 12, completed.getLsbD i.val = (z.mask.getLsbD i.val && decide (64 ≤ z.counts[i]))) ∧
      (∀ i : Fin 12, t.cal.channels[i] = { (s.cal.channels[i]) with
        offset := if completed.getLsbD i.val then nearest (z.sums[i]) 64 else (s.cal.channels[i]).offset }) ∧
      (s.ltx.responses.length < 4 → t.cal.zero = .idle ∧ t.ltx = s.ltx.placeResponse
        (zeroAnswer z.source z.tag status (z.mask.setWidth 16) completed z.counts (t.cal.channels.map ChannelEntry.offset))) ∧
      (4 ≤ s.ltx.responses.length → t.ltx = s.ltx ∧ t.cal.zero = .reporting
        { mask := z.mask, tag := z.tag, source := z.source, status := status, completed := completed, counts := z.counts
          offsets := t.cal.channels.map ChannelEntry.offset })
  (∀ (s : State) (z : ZeroCollection) (e : SensorEntry) (rest : List SensorEntry), s.cal.zero = .collecting z →
    s.lrx.intake = e :: rest → s.cal.held = none →
    let counted (i : Fin 12) : Prop := z.mask.getLsbD i.val = true ∧ z.counts[i] < 64 ∧ e.sensorValid.getLsbD i.val = true
    ∃ (z1 : ZeroCollection) (t u : State), exec .frameTake s = .next t ∧
      exec .frameTake (s.withCal { s.cal with zero := .idle }) = .next u ∧
      t = { u with cal := { u.cal with channels := t.cal.channels, zero := t.cal.zero }, ltx := t.ltx } ∧
      (∀ i : Fin 12, (counted i → z1.counts[i] = z.counts[i] + 1 ∧ z1.sums[i] = z.sums[i] + e.raw[i]) ∧
        (¬counted i → z1.counts[i] = z.counts[i] ∧ z1.sums[i] = z.sums[i])) ∧
      z1 = { z with counts := z1.counts, sums := z1.sums } ∧
      ((∃ i : Fin 12, z.mask.getLsbD i.val = true ∧ z1.counts[i] < 64) →
        t.cal.zero = .collecting z1 ∧ t.cal.channels = s.cal.channels ∧ t.ltx = s.ltx) ∧
      ((∀ i : Fin 12, z.mask.getLsbD i.val = true → 64 ≤ z1.counts[i]) → finished s t z1 .ok)) ∧
  (∀ (s : State) (z : ZeroCollection), s.cal.zero = .collecting z →
    ∃ t, exec .zeroTimeout s = .next t ∧ finished s t z .timeout ∧
      t = { s with cal := { s.cal with channels := t.cal.channels, zero := t.cal.zero }, ltx := t.ltx }) ∧
  (∀ s : State, (∀ z, s.cal.zero ≠ .collecting z) → exec .zeroTimeout s = .next s) ∧
  (∀ (s : State) (r : ZeroReport), s.cal.zero = .reporting r →
    (s.ltx.responses.length < 4 → exec .zeroResponsePlaced s = .next
      ({ s with cal := { s.cal with zero := .idle } }.answeredWith
        (zeroAnswer r.source r.tag r.status (r.mask.setWidth 16) r.completed r.counts r.offsets))) ∧
    (4 ≤ s.ltx.responses.length → exec .zeroResponsePlaced s = .next s)) ∧
  ∀ (s : State) (z : ZeroCollection) (source : Octet) (broadcast : Bool) (tag : Half) (rest : List CommandEntry),
    s.cal.zero = .collecting z → s.cmu.runState = .stopped →
    s.CanTake (commandEntry source broadcast 0x10 tag []) rest →
    let answered := s.ltx.responses ++ if broadcast then []
      else [{ destination := source, code := 0x10, tag := tag, status := .ok, results := [] }]
    ∃ t u, exec .startCommand s = .next t ∧ exec .startCommand (s.withCal { s.cal with zero := .idle }) = .next u ∧
      t = { u with cal := { s.cal with zero := t.cal.zero }, ltx := { u.ltx with responses := t.ltx.responses } } ∧
      (answered.length < 4 → t.cal.zero = .idle ∧ t.ltx.responses = answered ++
        [zeroAnswer z.source z.tag .aborted (z.mask.setWidth 16) 0 z.counts (s.cal.channels.map ChannelEntry.offset)]) ∧
      (4 ≤ answered.length → t.ltx.responses = answered ∧ t.cal.zero = .reporting
        { mask := z.mask, tag := z.tag, source := z.source, status := .aborted, completed := 0, counts := z.counts
          offsets := s.cal.channels.map ChannelEntry.offset })

/-! ### The odometry unit -/

/-- FRAME_EVENT with no base frame held (R58), and while CAL holds no record or LOC has not taken all of the previous frame
event (R57); SILENCE_EXPIRY (R79): a running timer stops and sets the silence flag, and gap-pending too in MEASURING; a
stopped one does not expire. -/
def Obligations.TheFirstFrameIsTheBaseAndSilenceExpires : Prop :=
  ((∀ (s : State) (new : CalFrame), s.links.odoToLoc = [] → s.cal.held = some new → s.odo.base = none →
    exec .frameEvent s = .next { s with
      cal := { s.cal with held := none }
      odo := { s.odo with base := some new, silenceTimer := some s.cmu.config.silenceMs }
      links := { s.links with odoToLoc :=
        match new.markId with | none => [] | some q => [.mark q ((s.odo.d / 1000 : Nat) : Int)] } }) ∧
  ∀ s : State, s.links.odoToLoc ≠ [] ∨ s.cal.held = none → exec .frameEvent s = .next s) ∧
  ∀ s : State,
    (s.odo.silenceTimer = none → exec .silenceExpiry s = .next s) ∧
    (s.odo.silenceTimer ≠ none → exec .silenceExpiry s = .next { s with odo := { s.odo with
      silenceTimer := none
      silenceFlag := true
      gapPending := s.odo.gapPending || decide (s.cmu.runState = .measuring) } })

/-- FRAME_EVENT against a base frame (R57, R59 to R68, R74, R78): the tachometer jump, the speed and the low-speed state, the
motion with its rollback, gap-pending, which waits for the first advance in MEASURING, the reverse-limit request, the mark
handed on first, and the rebase. -/
def Obligations.FrameEventFollowsSpeedAndMotion : Prop :=
  ∀ (s : State) (base new : CalFrame), s.links.odoToLoc = [] → s.cal.held = some new → s.odo.base = some base →
    let c := s.cmu.config
    let dn : Int := (new.tach - base.tach).toInt
    let d : Nat := dn.natAbs * c.pulseUm
    let dt : Nat := (new.timestamp - base.timestamp).toNat
    let jump : Prop := 100000000 < d
    let measuring : Bool := decide (s.cmu.runState = .measuring)
    let speed : Nat := min ((2 * (d * 36) + dt) / (2 * dt)) 65535
    ∃ t, exec .frameEvent s = .next t ∧
      t = { s with cal := { s.cal with held := none }, odo := t.odo, links := t.links } ∧
      t.odo.base = some new ∧ t.odo.silenceTimer = some c.silenceMs ∧ t.odo.tachFault = decide jump ∧
      (jump → t.odo.d = s.odo.d ∧ t.odo.r = s.odo.r ∧ t.odo.vf = s.odo.vf ∧ t.odo.lowSpeed = s.odo.lowSpeed ∧
        t.odo.gapPending = (s.odo.gapPending || measuring)) ∧
      (¬jump → dt = 0 → t.odo.vf = s.odo.vf ∧ t.odo.lowSpeed = s.odo.lowSpeed) ∧
      (¬jump → 0 < dt →
        (t.odo.vf : Int) = (s.odo.vf : Int) + Int.tdiv ((speed : Int) - (s.odo.vf : Int)) (2 ^ c.speedBeta) ∧
        t.odo.lowSpeed =
          if s.odo.lowSpeed then decide (t.odo.vf < c.minSpeed + 20) else decide (t.odo.vf < c.minSpeed)) ∧
      (¬jump → dn < 0 → t.odo.d = s.odo.d ∧ t.odo.r = min (s.odo.r + d) 200000000) ∧
      (¬jump → 0 ≤ dn → d ≤ s.odo.r → t.odo.d = s.odo.d ∧ t.odo.r = s.odo.r - d) ∧
      (¬jump → 0 ≤ dn → s.odo.r < d →
        t.odo.d = min (s.odo.d + (d - s.odo.r)) 1099511627775 ∧ t.odo.r = 0) ∧
      (¬jump → ¬(measuring = true ∧ s.odo.d < t.odo.d) → t.odo.gapPending = s.odo.gapPending) ∧
      (measuring = true → s.odo.d < t.odo.d → t.odo.gapPending = false) ∧
      (∃ grid : List OdoItem, (∀ q x, OdoItem.mark q x ∉ grid) ∧ t.links.odoToLoc =
        (match new.markId with | none => [] | some q => [.mark q ((t.odo.d / 1000 : Nat) : Int)]) ++ grid) ∧
      t.links = { s.links with
        odoToLoc := t.links.odoToLoc
        reverseRequest := if measuring = true ∧ ¬jump ∧ dn < 0 ∧ 200000000 ≤ s.odo.r + d then some s.cmu.runNumber
          else s.links.reverseRequest }

/-- Step 7 of a frame event (R68 to R73, R75 to R77, R80): the mark first, then in MEASURING, and only where D advanced, a
declared gap or the samples of the grid points reached, gap-pending being kept where D did not advance without a jump (R74);
an interpolated channel is valid where both frames are, saturated where either is, with R75's value, which lies between
theirs and is equal to the new frame's at a grid point that D has just reached. -/
def Obligations.GridPointsBecomeSamplesOrAGap : Prop :=
  (∀ (s t : State) (base new : CalFrame), s.links.odoToLoc = [] → s.cal.held = some new → s.odo.base = some base →
    exec .frameEvent s = .next t →
    let grid : Nat := 1000 * s.cmu.config.spacingMm
    let k : Nat := if t.odo.d < s.odo.n then 0 else (t.odo.d - s.odo.n) / grid + 1
    let mark : List OdoItem := match new.markId with | none => [] | some q => [.mark q ((t.odo.d / 1000 : Nat) : Int)]
    let gap : Prop := s.odo.gapPending = true ∨ s.odo.silenceFlag = true ∨ 4 < k ∨
      (s.odo.tachFault = true ∧ (base.overrun = true ∨ new.overrun = true))
    (¬(s.cmu.runState = .measuring ∧ s.odo.d < t.odo.d) → t.links.odoToLoc = mark ∧ t.odo.n = s.odo.n ∧ t.odo.s = s.odo.s ∧
      t.odo.silenceFlag = (s.odo.silenceFlag && decide (s.cmu.runState = .measuring)) ∧
      (t.odo.tachFault = false → t.odo.gapPending = s.odo.gapPending)) ∧
    (s.cmu.runState = .measuring → s.odo.d < t.odo.d →
      t.odo.n = s.odo.n + k * grid ∧ t.odo.s = s.odo.s + BitVec.ofNat 32 k ∧ t.odo.gapPending = false ∧
      t.odo.silenceFlag = false ∧
      (gap → t.links.odoToLoc = mark ++ [.gap s.cmu.runNumber]) ∧
      (¬gap → t.links.odoToLoc = mark ++ (List.range k).map fun j => .sample
        { run := s.cmu.runNumber
          index := s.odo.s + BitVec.ofNat 32 j
          point := s.odo.n + j * grid
          lowSpeed := t.odo.lowSpeed
          seqGap := decide (new.sequence ≠ base.sequence + 1) || base.overrun || new.overrun
          speed := t.odo.vf
          channels := Vector.ofFn fun i : Fin 12 =>
            interpolate (base.channels[i]) (new.channels[i]) (s.odo.n + j * grid) s.odo.d t.odo.d }))) ∧
  ∀ (a b : Quantity) (point dOld d : Nat), dOld < point → point ≤ d →
    let q := interpolate a b point dOld d
    q.valid = (a.valid && b.valid) ∧ q.saturated = (a.saturated || b.saturated) ∧
      (q.valid = true → q.value = a.value +
        nearest ((b.value - a.value) * ((point : Int) - (dOld : Int))) ((d : Int) - (dOld : Int))) ∧
      (q.valid = true → min a.value b.value ≤ q.value ∧ q.value ≤ max a.value b.value ∧ (point = d → q.value = b.value)) ∧
      (q.valid = false → q.value = 0)

/-! ### The location unit -/

/-- WRITE_MARK (R91), DELETE_MARK, CLEAR_MARKS and READ_MARK (R92) over a table that holds each id once: refusals, the entry
of every id afterwards, and the number of entries answered. -/
def Obligations.MarkTableFollowsItsCommands : Prop :=
  ∀ (s : State) (source : Octet) (tag : Half) (rest : List CommandEntry) (q : Nat), q < 65536 → s.loc.Lawful →
    (∀ e : MarkEntry, -2147483648 ≤ e.position → e.position ≤ 2147483647 → e.window < 65536 →
      s.CanTake (commandEntry source false 0x50 tag (octetsOf 2 q ++ (octetsOf 4 e.position ++ octetsOf 2 e.window))) rest →
      (q = 0 → exec .writeMark s = .next ((s.taken rest).responded source 0x50 tag .badArg [])) ∧
      (q ≠ 0 → markEntry? s.loc.marks q = none → 256 ≤ s.loc.marks.length →
        exec .writeMark s = .next ((s.taken rest).responded source 0x50 tag .full [])) ∧
      (q ≠ 0 → (markEntry? s.loc.marks q ≠ none ∨ s.loc.marks.length < 256) →
        ∃ table, exec .writeMark s = .next ({ s.taken rest with
            loc := { s.loc with marks := table } }.responded source 0x50 tag .ok (octetsOf 2 table.length)) ∧
          (∀ p, markEntry? table p = if p = q then some e else markEntry? s.loc.marks p) ∧
          table.length = s.loc.marks.length + if markEntry? s.loc.marks q = none then 1 else 0)) ∧
    (s.CanTake (commandEntry source false 0x51 tag (octetsOf 2 q)) rest →
      (q = 0 → exec .deleteMark s = .next ((s.taken rest).responded source 0x51 tag .badArg [])) ∧
      (q ≠ 0 → markEntry? s.loc.marks q = none →
        exec .deleteMark s = .next ((s.taken rest).responded source 0x51 tag .notFound [])) ∧
      (q ≠ 0 → markEntry? s.loc.marks q ≠ none →
        ∃ table, exec .deleteMark s = .next ({ s.taken rest with
            loc := { s.loc with marks := table } }.responded source 0x51 tag .ok (octetsOf 2 table.length)) ∧
          (∀ p, markEntry? table p = if p = q then none else markEntry? s.loc.marks p) ∧
          table.length + 1 = s.loc.marks.length)) ∧
    (s.CanTake (commandEntry source false 0x52 tag []) rest →
      exec .clearMarks s = .next ({ s.taken rest with
        loc := { s.loc with marks := [] } }.responded source 0x52 tag .ok [0, 0])) ∧
    (s.CanTake (commandEntry source false 0x53 tag (octetsOf 2 q)) rest →
      (q = 0 → exec .readMark s = .next ((s.taken rest).responded source 0x53 tag .badArg [])) ∧
      (q ≠ 0 → markEntry? s.loc.marks q = none →
        exec .readMark s = .next ((s.taken rest).responded source 0x53 tag .notFound [])) ∧
      ∀ e, markEntry? s.loc.marks q = some e → exec .readMark s = .next ((s.taken rest).responded source 0x53 tag .ok
        (octetsOf 4 e.position ++ octetsOf 2 e.window ++ octetsOf 2 s.loc.marks.length)))

/-- SET_POSITION (R88, R89, R97): the offset that puts the car at p, or BAD_ARG where it does not fit; the δ of the record
and of the response limited to 32 bits (the response's limit is the model's choice, assumption log 13). -/
def Obligations.SetPositionAnchorsTheOffset : Prop :=
  ∀ (s : State) (source : Octet) (tag : Half) (rest : List CommandEntry) (p : Int),
    -2147483648 ≤ p → p ≤ 2147483647 → s.CanTake (commandEntry source false 0x14 tag (octetsOf 4 p)) rest →
    let measured : Int := (s.odo.d / 1000 : Nat)
    let offset : Int := p - measured
    let delta : Int := max (-2147483648) (min (offset - s.loc.offset) 2147483647)
    (offset < -2147483648 ∨ 2147483647 < offset →
      exec .setPosition s = .next ((s.taken rest).responded source 0x14 tag .badArg [])) ∧
    (-2147483648 ≤ offset → offset ≤ 2147483647 →
      exec .setPosition s = .next ({ s.taken rest with
        loc := { s.loc with offset := offset, located := true, epoch := s.loc.epoch + 1, cursor := none }
        ltx := s.ltx.offerLocation
          { kind := .positionSet delta, measured := measured, offset := offset, epoch := s.loc.epoch + 1, located := true
            lost := 0 } }.responded source 0x14 tag .ok
        (octetsOf 4 measured ++ octetsOf 4 offset ++ octetsOf 4 delta ++ [(s.loc.epoch + 1 : Octet)])))

/-- MARK_HANDOFF (R88, R93, R94, R97): held off, unknown, applied, and rejected for its window or for the range of the offset;
nothing is taken while MSE has not taken what LOC handed on (R85; for a mark, assumption log 24). -/
def Obligations.MarkHandoffsCorrectTheOffset : Prop :=
  (∀ s : State, s.links.locToMse ≠ none ∨ (∀ q m rest, s.links.odoToLoc ≠ .mark q m :: rest) →
    exec .markHandoff s = .next s) ∧
  ∀ (s : State) (q : Nat) (m : Int) (rest : List OdoItem), s.links.odoToLoc = .mark q m :: rest → s.links.locToMse = none →
    let s1 : State := { s with links := { s.links with odoToLoc := rest } }
    let heldOff : Prop := ∃ h, s.loc.holdoff = some h ∧ h.id = q ∧ m - h.measured ≤ 10000
    let emitted (l : Loc) (kind : LocationKind) : Ltx := s.ltx.offerLocation
      { kind := kind, measured := m, offset := l.offset, epoch := l.epoch, located := l.located, lost := 0 }
    (heldOff → exec .markHandoff s = .next s1) ∧
    (¬heldOff → markEntry? s.loc.marks q = none →
      exec .markHandoff s = .next { s1 with ltx := emitted s.loc (.markUnknown q) }) ∧
    ∀ e : MarkEntry, ¬heldOff → markEntry? s.loc.marks q = some e →
      let delta : Int := e.position - (m + s.loc.offset)
      let accepted : Prop := s.loc.located = false ∨ e.window = 0 ∨ delta.natAbs ≤ e.window
      let fits : Prop := -2147483648 ≤ s.loc.offset + delta ∧ s.loc.offset + delta ≤ 2147483647
      let shown : Int := max (-2147483648) (min delta 2147483647)
      let applied : Loc := { s.loc with
        offset := s.loc.offset + delta
        located := true
        holdoff := some { id := q, measured := m }
        epoch := if s.loc.located = true ∧ delta = 0 then s.loc.epoch else s.loc.epoch + 1
        cursor := if s.loc.located = true ∧ delta = 0 then s.loc.cursor else none }
      (accepted → fits →
        exec .markHandoff s = .next { s1 with loc := applied, ltx := emitted applied (.markApplied q e shown) }) ∧
      (accepted → ¬fits →
        exec .markHandoff s = .next { s1 with ltx := emitted s.loc (.markRejected q e shown .range) }) ∧
      (¬accepted → exec .markHandoff s = .next { s1 with ltx := emitted s.loc (.markRejected q e shown .window) })

/-- APPEND_SECTION (R99), CLEAR_SECTIONS and READ_SECTION (R102), with the layouts of R196; a presence octet that is neither
no nor yes is refused (assumption log 16: the model's choice). -/
def Obligations.SectionTableFollowsItsCommands : Prop :=
  ∀ (s : State) (source : Octet) (tag : Half) (rest : List CommandEntry),
    (∀ (start finish cant : Int) (band present : Nat) (suppress : Half), -2147483648 ≤ start → start ≤ 2147483647 →
      -2147483648 ≤ finish → finish ≤ 2147483647 → -2147483648 ≤ cant → cant ≤ 2147483647 → band < 256 → present < 256 →
      s.CanTake (commandEntry source false 0x58 tag (octetsOf 4 start ++ (octetsOf 4 finish ++ (octetsOf 1 band ++
        (octetsOf 2 suppress.toNat ++ (octetsOf 1 present ++ octetsOf 4 cant)))))) rest →
      let inRange : Prop := start < finish ∧ band < 5 ∧ present < 2 ∧ (present = 1 → -1000000 ≤ cant ∧ cant ≤ 1000000)
      let behind : Prop := ∃ tail, s.loc.sections.getLast? = some tail ∧ start < tail.finish
      (¬inRange → exec .appendSection s = .next ((s.taken rest).responded source 0x58 tag .badArg [])) ∧
      (inRange → behind → exec .appendSection s = .next ((s.taken rest).responded source 0x58 tag .order [])) ∧
      (inRange → ¬behind → 512 ≤ s.loc.sections.length →
        exec .appendSection s = .next ((s.taken rest).responded source 0x58 tag .full [])) ∧
      ∀ h : band < 5, inRange → ¬behind → s.loc.sections.length < 512 →
        exec .appendSection s = .next ({ s.taken rest with loc := { s.loc with
          sections := s.loc.sections ++
            [({ start := start, finish := finish, band := ⟨band, h⟩, suppress := suppress
                cant := if present = 1 then some cant else none } : SectionEntry)]
          cursor := none } }.responded source 0x58 tag .ok (octetsOf 2 (s.loc.sections.length + 1 : Nat)))) ∧
    (s.CanTake (commandEntry source false 0x59 tag []) rest →
      exec .clearSections s = .next ({ s.taken rest with
        loc := { s.loc with sections := [], cursor := none } }.responded source 0x59 tag .ok [0, 0])) ∧
    ∀ i : Nat, i < 65536 → s.CanTake (commandEntry source false 0x5A tag (octetsOf 2 i)) rest →
      (511 < i → exec .readSection s = .next ((s.taken rest).responded source 0x5A tag .badArg [])) ∧
      (i ≤ 511 → s.loc.sections.length ≤ i →
        exec .readSection s = .next ((s.taken rest).responded source 0x5A tag .notFound [])) ∧
      ∀ x, i ≤ 511 → s.loc.sections[i]? = some x →
        exec .readSection s = .next ((s.taken rest).responded source 0x5A tag .ok
          (octetsOf 2 s.loc.sections.length ++ octetsOf 4 x.start ++ octetsOf 4 x.finish ++ octetsOf 1 x.band.val ++
            octetsOf 2 x.suppress.toNat ++
            (match x.cant with
              | none => [0, 0, 0, 0, 0]
              | some c => (1 : Octet) :: octetsOf 4 c)))

/-- LOC_SAMPLE and LOC_GAP_NOTICE of the run in force (R85 to R87, R100, R101): the position, retirement from the head, the
scan from the cursor, and the section found, which is the one that contains the position when the scan starts at the
head; a gap notice goes on to MSE. -/
def Obligations.SamplesTakeTheirPositionAndSection : Prop :=
  (∀ (s : State) (x : Sample) (rest : List OdoItem), s.links.odoToLoc = .sample x :: rest → s.links.locToMse = none →
    s.cmu.runState = .measuring → x.run = s.cmu.runNumber →
    ∃ (t : State) (y : LocatedSample), exec .locSample s = .next t ∧
      t = { s with loc := t.loc, links := { s.links with odoToLoc := rest, locToMse := some (.sample y) } } ∧
      y.sample = x ∧ y.epoch = s.loc.epoch ∧ y.unlocated = !s.loc.located ∧
      y.position = max (-2147483648) (min ((x.point / 1000 : Nat) + s.loc.offset) 2147483647) ∧
      let plain : Prop := y.band = s.cmu.config.defaultBand ∧ y.suppress = 0 ∧ y.cant = none
      let taken (z : SectionEntry) : Prop := y.band = z.band ∧ y.suppress = z.suppress ∧ y.cant = z.cant
      (s.loc.located = false → t.loc = s.loc ∧ plain) ∧
      (s.loc.located = true → ∃ (gone : List SectionEntry) (k : Nat),
        s.loc.sections = gone ++ t.loc.sections ∧ (∀ z ∈ gone, z.finish + 2000000 ≤ y.position) ∧
        (∀ z, t.loc.sections.head? = some z → y.position < z.finish + 2000000) ∧
        t.loc = { s.loc with sections := t.loc.sections, cursor := some k } ∧
        (match s.loc.cursor with | some c => c - gone.length | none => 0) ≤ k ∧
        (∀ (i : Nat) (z : SectionEntry), (match s.loc.cursor with | some c => c - gone.length | none => 0) ≤ i → i < k →
          t.loc.sections[i]? = some z → z.finish ≤ y.position) ∧
        (∀ z, t.loc.sections[k]? = some z → y.position < z.finish ∧
          (z.start ≤ y.position → taken z) ∧ (y.position < z.start → plain)) ∧
        (t.loc.sections[k]? = none → plain) ∧
        (s.loc.Lawful → s.loc.cursor = none →
          (∀ z ∈ t.loc.sections, z.start ≤ y.position → y.position < z.finish → taken z) ∧
          ((∀ z ∈ t.loc.sections, ¬(z.start ≤ y.position ∧ y.position < z.finish)) → plain)))) ∧
  (∀ (s : State) (rest : List OdoItem), s.links.odoToLoc = .gap s.cmu.runNumber :: rest → s.links.locToMse = none →
    s.cmu.runState = .measuring →
    exec .locGapNotice s = .next { s with
      links := { s.links with odoToLoc := rest, locToMse := some (.gap s.cmu.runNumber) } }) ∧
  ∀ s : State, s.links.locToMse ≠ none → exec .locSample s = .next s ∧ exec .locGapNotice s = .next s

/-! ### The measure engine -/

/-- WRITE_PARAMETER in STOPPED (R106) and READ_PARAMETER (R107), with the layouts of R196; only the terms the entry holds are
reported (assumption log 11: the model's choice). -/
def Obligations.ParameterEntriesAreWrittenAndRead : Prop :=
  (∀ (s : State) (source : Octet) (tag : Half) (rest : List CommandEntry) (p count : Nat) (records : List (Nat × Int))
    (k : Int), p < 256 → count < 256 → records.length = 3 →
    (∀ r ∈ records, r.1 < 256 ∧ -32768 ≤ r.2 ∧ r.2 ≤ 32767) → -2147483648 ≤ k → k ≤ 2147483647 →
    s.CanTake (commandEntry source false 0x38 tag (octetsOf 1 p ++ (octetsOf 1 count ++
      (records.flatMap (fun r => octetsOf 1 r.1 ++ octetsOf 2 r.2) ++ octetsOf 4 k)))) rest → s.cmu.runState = .stopped →
    let inRange : Prop := p < 10 ∧ count ≤ 3 ∧ (∀ r ∈ records.take count, r.1 < 12) ∧ -1000000 ≤ k ∧ k ≤ 1000000
    (¬inRange → exec .writeParameter s = .next ((s.taken rest).responded source 0x38 tag .badArg [])) ∧
    ∀ h : p < 10, inRange → ∃ entry : ParameterEntry,
      entry.k = k ∧ entry.terms.map (fun t => (t.channel.val, t.weight)) = records.take count ∧
      exec .writeParameter s = .next ({ s.taken rest with
        mse := { s.mse with parameters := s.mse.parameters.set p entry h } }.responded source 0x38 tag .ok [])) ∧
  ∀ (s : State) (source : Octet) (tag : Half) (rest : List CommandEntry) (p : Nat), p < 256 →
    s.CanTake (commandEntry source false 0x39 tag (octetsOf 1 p)) rest →
    (10 ≤ p → exec .readParameter s = .next ((s.taken rest).responded source 0x39 tag .badArg [])) ∧
    ∀ h : p < 10,
      let e := s.mse.parameters[p]
      let entry : List Octet := octetsOf 1 e.terms.length ++
        e.terms.flatMap (fun t => octetsOf 1 t.channel.val ++ octetsOf 2 t.weight) ++ octetsOf 4 e.k
      (s.mse.newest = none → exec .readParameter s = .next
        ((s.taken rest).responded source 0x39 tag .ok (entry ++ [0, 0, 0, 0, 0, 0, 0]))) ∧
      ∀ (i : Quad) (t : Slot), s.mse.newest = some i → s.mse.history[slotNumber i.toNat] = some t → t.index = i →
        let q := t.parameters[p]
        exec .readParameter s = .next ((s.taken rest).responded source 0x39 tag .ok
          (entry ++ [(1 : Octet)] ++ octetsOf 4 q.value ++ [(if q.valid then 1 else 0 : Octet)] ++
            [(if q.saturated then 1 else 0 : Octet)]))

/-- WRITE_MEASURE in STOPPED (R117), READ_MEASURE (R118) and REBASE (R127), with the layouts of R196; a measure that has no
baseline is reported without one (assumption log 11), REBASE names every deviation measure of its mask, already unseeded
ones too (assumption log 26), and bit n of REBASE's mask and of its answer names Mn (assumption log 31): all the model's
choice. -/
def Obligations.MeasureEntriesAreWrittenReadAndRebased : Prop :=
  (∀ (s : State) (source : Octet) (tag : Half) (rest : List CommandEntry) (m kind p l beta group : Nat),
    m < 256 → kind < 256 → p < 256 → l < 256 → beta < 256 → group < 256 →
    s.CanTake (commandEntry source false 0x40 tag (octetsOf 1 m ++ (octetsOf 1 kind ++ (octetsOf 1 p ++ (octetsOf 1 l ++
      (octetsOf 1 beta ++ octetsOf 1 group)))))) rest → s.cmu.runState = .stopped →
    let inRange : Prop := m < 16 ∧ kind ≤ 5 ∧ (kind ≠ 0 → p < 10) ∧
      (kind = 2 ∨ kind = 3 → l % 2 = 0 ∧ 2 ≤ l ∧ l ≤ 120 ∧ l / 2 ≤ s.cmu.config.alignDelay) ∧
      (kind = 4 ∨ kind = 5 → 4 ≤ beta ∧ beta ≤ 15 ∧ group ≤ 4)
    (¬inRange → exec .writeMeasure s = .next ((s.taken rest).responded source 0x40 tag .badArg [])) ∧
    ∀ h : m < 16, inRange → ∃ q : Fin 10, (kind ≠ 0 → q.val = p) ∧
      let entry : MeasureEntry := match kind with
        | 0 => .disabled
        | 1 => .direct q
        | 2 => .chord q l
        | 3 => .twist q l
        | 4 => .deviation q beta group
        | _ => .cantDeviation q beta group
      exec .writeMeasure s = .next ({ s.taken rest with mse := { s.mse with
        measures := s.mse.measures.set m entry h
        baselines := s.mse.baselines.set m none h } }.responded source 0x40 tag .ok [])) ∧
  (∀ (s : State) (source : Octet) (tag : Half) (rest : List CommandEntry) (m : Nat), m < 256 →
    s.CanTake (commandEntry source false 0x41 tag (octetsOf 1 m)) rest →
    (16 ≤ m → exec .readMeasure s = .next ((s.taken rest).responded source 0x41 tag .badArg [])) ∧
    ∀ h : m < 16,
      let baseline : List Octet := match s.mse.baselines[m] with
        | none => [0, 0, 0, 0, 0]
        | some b => (1 : Octet) :: octetsOf 4 b
      let report : List Octet := match s.mse.measures[m] with
        | .disabled => [0, 0, 0, 0, 0]
        | .direct p => [1, BitVec.ofNat 8 p.val, 0, 0, 0]
        | .chord p l => [2, BitVec.ofNat 8 p.val, BitVec.ofNat 8 l, 0, 0]
        | .twist p l => [3, BitVec.ofNat 8 p.val, BitVec.ofNat 8 l, 0, 0]
        | .deviation p beta g => [4, BitVec.ofNat 8 p.val, 0, BitVec.ofNat 8 beta, BitVec.ofNat 8 g] ++ baseline
        | .cantDeviation p beta g => [5, BitVec.ofNat 8 p.val, 0, BitVec.ofNat 8 beta, BitVec.ofNat 8 g] ++ baseline
      exec .readMeasure s = .next ((s.taken rest).responded source 0x41 tag .ok report)) ∧
  ∀ (s : State) (source : Octet) (tag mask : Half) (rest : List CommandEntry),
    s.CanTake (commandEntry source false 0x42 tag (octetsOf 2 mask.toNat)) rest →
    ∃ named : Half, (∀ m : Fin 16, named.getLsbD m.val =
        (mask.getLsbD m.val && (s.mse.measures[m]).haltGroup?.isSome)) ∧
      exec .rebase s = .next ({ s.taken rest with mse := { s.mse with
        baselines := Vector.ofFn fun m : Fin 16 => if named.getLsbD m.val then none else s.mse.baselines[m]
        } }.responded source 0x42 tag .ok (octetsOf 2 named.toNat))

/-- SAMPLE_EVENT and GAP_EVENT of the run in force (R105, R111 to R115): the slot written, the newest index, the row formed for
the output index when its slot holds it, with its attributes, and what a gap clears; MSE takes nothing while EXD or STU
has a row to take. -/
def Obligations.SampleEventsWriteHistoryAndFormRows : Prop :=
  (∀ (s : State) (y : LocatedSample), s.links.locToMse = some (.sample y) → s.links.rowsTaken = true →
    s.cmu.runState = .measuring → y.sample.run = s.cmu.runNumber →
    let i := y.sample.index
    let written : Slot :=
      { index := i, position := y.position, unlocated := y.unlocated, lowSpeed := y.sample.lowSpeed
        seqGap := y.sample.seqGap, speed := y.sample.speed, band := y.band, suppress := y.suppress, cant := y.cant
        epoch := y.epoch
        parameters := Vector.ofFn fun p : Fin 10 => (s.mse.parameters[p]).compute s.cal.channels y.sample }
    let now : Mse := { s.mse with
      history := s.mse.history.set (i.toNat % 128) (some written) (Nat.mod_lt _ (by decide)), newest := some i }
    let delay := s.cmu.config.alignDelay
    let taken : Links := { s.links with locToMse := none }
    (i.toNat < delay ∨ (∀ z, now.history[slotNumber (i.toNat - delay)] = some z → z.index.toNat ≠ i.toNat - delay) →
      exec .sampleEvent s = .next { s with mse := now, links := taken }) ∧
    ∀ z, delay ≤ i.toNat → now.history[slotNumber (i.toNat - delay)] = some z → z.index.toNat = i.toNat - delay →
      let row : Row :=
        { run := s.cmu.runNumber, index := z.index, position := z.position, unlocated := z.unlocated
          lowSpeed := z.lowSpeed, seqGap := z.seqGap, speed := z.speed, band := z.band, suppress := z.suppress
          epoch := z.epoch
          cantTable := z.cant.isSome && decide (∃ m : Fin 16, (s.mse.measures[m]).isCantDeviation = true)
          measures := Vector.ofFn fun m : Fin 16 => now.measure m (i.toNat - delay : Nat) z.cant }
      exec .sampleEvent s = .next { s with
        mse := { now with baselines := Vector.ofFn fun m : Fin 16 =>
          now.baselineAfter s.exd.detectors m (i.toNat - delay : Nat) }
        links := { taken with
          mseToExd := s.links.mseToExd ++ [.row row]
          mseToStu := s.links.mseToStu ++ [.row row]
          mseToLtx := s.links.mseToLtx ++ [.row row] } }) ∧
  (∀ s : State, s.links.locToMse = some (.gap s.cmu.runNumber) → s.links.rowsTaken = true →
    s.cmu.runState = .measuring →
    exec .gapEvent s = .next { s with
      mse := { s.mse with
        history := Vector.replicate 128 none, newest := none, baselines := Vector.replicate 16 none }
      links := { s.links with
        locToMse := none
        mseToExd := s.links.mseToExd ++ [.gap s.cmu.runNumber]
        mseToStu := s.links.mseToStu ++ [.gap s.cmu.runNumber]
        mseToLtx := s.links.mseToLtx ++ [.gap s.cmu.runNumber] } }) ∧
  ∀ s : State, (∃ x, .row x ∈ s.links.mseToExd ∨ .row x ∈ s.links.mseToStu) →
    exec .sampleEvent s = .next s ∧ exec .gapEvent s = .next s

/-- The values MSE computes (R108, R109, R119 to R126): a parameter of a sample, a parameter read in the history, each measure
kind with its limit, and the baseline after a row. -/
def Obligations.MeasuresAndBaselinesFollowTheirRules : Prop :=
  let limit (x : Int) (sat : Bool) : Quantity :=
    { value := max (-1000000) (min x 1000000), valid := true, saturated := sat || decide (x < -1000000 ∨ 1000000 < x) }
  let invalid : Quantity := { value := 0, valid := false, saturated := false }
  (∀ (e : ParameterEntry) (table : Vector ChannelEntry 12) (x : Sample),
    let bad (t : Term) : Prop := (x.channels[t.channel]).valid = false ∨
      ((table[t.channel]).inertial = true ∧ x.lowSpeed = true)
    (e.terms = [] ∨ (∃ t ∈ e.terms, bad t) → e.compute table x = invalid) ∧
    (e.terms ≠ [] → (∀ t ∈ e.terms, ¬bad t) → e.compute table x =
      limit (nearest (e.terms.map fun t => t.weight * (x.channels[t.channel]).value).sum 256 + e.k)
        (e.terms.any fun t => (x.channels[t.channel]).saturated))) ∧
  (∀ (x : Mse) (p : Fin 10) (j : Int) (q : Quantity), x.read p j = some q ↔
    0 ≤ j ∧ ∃ t, x.history[slotNumber j.toNat] = some t ∧ t.index.toNat = j.toNat ∧ t.parameters[p] = q ∧ q.valid = true) ∧
  (∀ (x : Mse) (m : Fin 16) (o : Int) (cant : Option Int),
    (x.measures[m] = .disabled → x.measure m o cant = invalid) ∧
    (∀ p, x.measures[m] = .direct p →
      (x.read p o = none → x.measure m o cant = invalid) ∧ ∀ q, x.read p o = some q → x.measure m o cant = q) ∧
    (∀ p l, x.measures[m] = .chord p l →
      (∀ a q b, x.read p (o - (l / 2 : Nat)) = some a → x.read p o = some q → x.read p (o + (l / 2 : Nat)) = some b →
        x.measure m o cant =
          limit (nearest (2 * q.value - b.value - a.value) 2) (a.saturated || q.saturated || b.saturated)) ∧
      (x.read p (o - (l / 2 : Nat)) = none ∨ x.read p o = none ∨ x.read p (o + (l / 2 : Nat)) = none →
        x.measure m o cant = invalid)) ∧
    (∀ p l, x.measures[m] = .twist p l →
      (∀ a b, x.read p (o - (l / 2 : Nat)) = some a → x.read p (o + (l / 2 : Nat)) = some b →
        x.measure m o cant = limit (b.value - a.value) (a.saturated || b.saturated)) ∧
      (x.read p (o - (l / 2 : Nat)) = none ∨ x.read p (o + (l / 2 : Nat)) = none → x.measure m o cant = invalid)) ∧
    (∀ p beta g, (x.measures[m] = .deviation p beta g ∨ x.measures[m] = .cantDeviation p beta g) →
      let reference : Option Int :=
        if x.measures[m] = .cantDeviation p beta g ∧ cant ≠ none then cant else x.baselines[m]
      (x.read p o = none → x.measure m o cant = invalid) ∧
      (∀ q, x.read p o = some q → reference = none → x.measure m o cant = limit 0 q.saturated) ∧
      ∀ q r, x.read p o = some q → reference = some r → x.measure m o cant = limit (q.value - r) q.saturated)) ∧
  ∀ (x : Mse) (detectors : Vector Detector 16) (m : Fin 16) (o : Int),
    (∀ p beta g, (x.measures[m] = .deviation p beta g ∨ x.measures[m] = .cantDeviation p beta g) →
      let halted : Prop := g ≠ 0 ∧ ∃ n : Fin 16, (x.measures[n]).haltGroup? = some g ∧
        ((detectors[n]).mode = .active ∨ (detectors[n]).mode = .latched)
      (x.read p o = none → x.baselineAfter detectors m o = x.baselines[m]) ∧
      ∀ q, x.read p o = some q →
        (x.baselines[m] = none → x.baselineAfter detectors m o = some q.value) ∧
        ∀ b, x.baselines[m] = some b →
          (halted → x.baselineAfter detectors m o = some b) ∧
          (¬halted → x.baselineAfter detectors m o = some (b + Int.tdiv (q.value - b) (2 ^ beta)) ∧
            min b q.value ≤ b + Int.tdiv (q.value - b) (2 ^ beta) ∧
            b + Int.tdiv (q.value - b) (2 ^ beta) ≤ max b q.value)) ∧
    ((x.measures[m]).haltGroup? = none → x.baselineAfter detectors m o = x.baselines[m])

/-! ### Exceedance detection -/

/-- WRITE_LIMITS (R130) and READ_LIMITS (R131), with the layouts of R196: the two passes of checks, the one set replaced, and
the set, its exit limits and the measure's detector reported. -/
def Obligations.LimitSetsAreCheckedThenReplaced : Prop :=
  (∀ (s : State) (source : Octet) (tag : Half) (rest : List CommandEntry)
    (band measure enter1 enter2 enter3 h sign e x maxLength : Nat), band < 256 → measure < 256 → enter1 < 4294967296 →
    enter2 < 4294967296 → enter3 < 4294967296 → h < 4294967296 → sign < 256 → e < 256 → x < 256 → maxLength < 65536 →
    s.CanTake (commandEntry source false 0x48 tag (octetsOf 1 band ++ (octetsOf 1 measure ++ (octetsOf 4 enter1 ++
      (octetsOf 4 enter2 ++ (octetsOf 4 enter3 ++ (octetsOf 4 h ++ (octetsOf 1 sign ++ (octetsOf 1 e ++ (octetsOf 1 x ++
        octetsOf 2 maxLength)))))))))) rest →
    let inRange : Prop := band < 5 ∧ measure < 16 ∧ enter1 ≤ 1000000 ∧ enter2 ≤ 1000000 ∧ enter3 ≤ 1000000 ∧
      h ≤ 1000000 ∧ sign < 3 ∧ 1 ≤ e ∧ e ≤ 15 ∧ 1 ≤ x ∧ x ≤ 15
    let consistent : Prop := (0 < enter2 → 0 < enter1 ∧ enter1 < enter2) ∧ (0 < enter3 → 0 < enter2 ∧ enter2 < enter3) ∧
      (0 < enter1 → h < enter1)
    (¬inRange → exec .writeLimits s = .next ((s.taken rest).responded source 0x48 tag .badArg [])) ∧
    (inRange → ¬consistent → exec .writeLimits s = .next ((s.taken rest).responded source 0x48 tag .badTable [])) ∧
    (inRange → consistent → ∃ limits : Vector (Vector LimitSet 16) 5,
      (∀ (b : Fin 5) (m : Fin 16), (limits[b])[m] =
        if b.val = band ∧ m.val = measure then
          { enter1 := enter1, enter2 := enter2, enter3 := enter3, h := h
            sign := match sign with | 0 => .both | 1 => .positive | _ => .negative
            e := e, x := x, maxLength := maxLength }
        else s.exd.limitSet b m) ∧
      exec .writeLimits s = .next ({ s.taken rest with
        exd := { s.exd with limits := limits } }.responded source 0x48 tag .ok []))) ∧
  ∀ (s : State) (source : Octet) (tag : Half) (rest : List CommandEntry) (band measure : Nat), band < 256 → measure < 256 →
    s.CanTake (commandEntry source false 0x49 tag (octetsOf 1 band ++ octetsOf 1 measure)) rest →
    (5 ≤ band ∨ 16 ≤ measure → exec .readLimits s = .next ((s.taken rest).responded source 0x49 tag .badArg [])) ∧
    ∀ (hb : band < 5) (hm : measure < 16),
      let l := s.exd.limitSet ⟨band, hb⟩ ⟨measure, hm⟩
      let d := s.exd.detectors[measure]
      let exit (enter : Nat) : Int := if enter = 0 then 0 else (enter : Int) - l.h
      exec .readLimits s = .next ((s.taken rest).responded source 0x49 tag .ok
        (octetsOf 4 l.enter1 ++ octetsOf 4 l.enter2 ++ octetsOf 4 l.enter3 ++ octetsOf 4 l.h ++
          [(match l.sign with | .both => 0 | .positive => 1 | .negative => 2 : Octet)] ++ octetsOf 1 l.e ++
          octetsOf 1 l.x ++ octetsOf 2 l.maxLength ++ octetsOf 4 (exit l.enter1) ++ octetsOf 4 (exit l.enter2) ++
          octetsOf 4 (exit l.enter3) ++
          [(match d.mode with | .disabled => 0 | .quiet => 1 | .active => 2 | .latched => 3 : Octet)] ++
          octetsOf 1 d.level ++ octetsOf 2 d.runLength))

/-- ROW_EVENT (R134, R153, R167) and EXD_GAP_NOTICE (R148, R165) of the run in force: every detector judges its measure under
the limits of the row's band, EXT takes the notices in ascending order of measure and publishes the open count; a gap
resets the detectors and truncates what is open. Nothing else changes but the alert queue. That bit n of the suppress mask,
which `Row.judged` reads, names Mn is assumption log 31: the model's choice. -/
def Obligations.RowEventsJudgeEveryMeasureAndTrackIt : Prop :=
  (∀ (s : State) (r : Row) (rest : List RowItem), s.links.mseToExd = .row r :: rest → s.cmu.runState = .measuring →
    r.run = s.cmu.runNumber →
    let judged (m : Fin 16) : Detector × List Notice :=
      (s.exd.detectors[m]).judge (s.mse.measures[m]) (s.exd.limitSet r.band m) m (r.judged m)
    ∃ t, exec .rowEvent s = .next t ∧
      t = { s with
        exd := { s.exd with detectors := Vector.ofFn fun m : Fin 16 => (judged m).1 }
        ext := t.ext
        ltx := { s.ltx with alerts := t.ltx.alerts }
        links := { s.links with mseToExd := rest } } ∧
      t.tracker = s.tracker.takeRow s.cmu.config ((List.finRange 16).flatMap fun m => (judged m).2) r.index ∧
      t.ext.openCount = t.ext.countIn .opened ∧ t.ext.openRow = some r.index ∧
      (∃ added, t.ltx.alerts = s.ltx.alerts ++ added ∧ (added ≠ [] → t.ltx.alerts.length ≤ 4)) ∧
      (∃ closed, t.ext.posted = s.ext.posted ++ closed) ∧ (∃ opened, s.ext.free = opened ++ t.ext.free)) ∧
  (∀ (s : State) (rest : List RowItem), s.links.mseToExd = .gap s.cmu.runNumber :: rest → s.cmu.runState = .measuring →
    exec .exdGapNotice s = .next { s with
      exd := { s.exd with detectors := Vector.ofFn fun m : Fin 16 =>
        if (s.exd.detectors[m]).mode = DetectorMode.disabled then s.exd.detectors[m] else .cleared .quiet }
      ext := s.ext.truncate s.cmu.config
      links := { s.links with mseToExd := rest } }) ∧
  ∀ s : State, s.links.mseToExd = [] → exec .rowEvent s = .next s ∧ exec .exdGapNotice s = .next s

/-- The detector (R129, R136 to R146) on one row, for a limit set that meets R130's rules: what each mode becomes and which
notices EXT gets, with the debounce on the way up and down, the run a rise builds, the highest lower level met, and the
maximum length. That an OPEN notice names its row and epoch is assumption log 25: the model's choice. -/
def Obligations.DetectorsRiseHoldAndFall : Prop :=
  ∀ (d : Detector) (kind : MeasureEntry) (l : LimitSet) (m : Fin 16) (j : Judged), l.Lawful →
    let next := d.judge kind l m j
    let cleared (mode : DetectorMode) : Detector :=
      { mode := mode, level := 0, riseCount := 0, riseMin := 0, pendingRun := none, fallCount := 0, previous := none
        lastHold := none, runLength := 0, releaseCount := 0 }
    let a : Nat := match l.sign with
      | .both => j.value.value.natAbs
      | .positive => j.value.value.toNat
      | .negative => (-j.value.value).toNat
    let enter (k : Nat) : Nat := if k = 1 then l.enter1 else if k = 2 then l.enter2 else l.enter3
    let level (k : Nat) : Prop := 1 ≤ k ∧ k ≤ 3 ∧ 0 < enter k
    let below (k : Nat) : Prop := (a : Int) < (enter k : Int) - l.h
    let entered (e : Nat) : Prop := (e = 0 ∧ ∀ k, level k → a < enter k) ∨
      (level e ∧ enter e ≤ a ∧ ∀ k, level k → enter k ≤ a → k ≤ e)
    let lowest (e : Nat) : Nat := if d.riseCount = 0 then e else min d.riseMin e
    let hasLimits : Prop := kind ≠ .disabled ∧ 0 < l.enter1
    let row (c : Nat) : Notice := .row m j.row j.epoch j.value.valid (if j.value.valid then a else 0)
      (if j.value.valid then j.value.value else 0) j.value.saturated j.lowSpeed j.speed c
    let here : Peak := { magnitude := a, signed := j.value.value, row := j.row }
    let rising (run : PendingRun) : Prop :=
      (d.riseCount = 0 → run =
        { start := j.row, band := j.band, epoch := j.epoch, peak := here, sat := j.value.saturated
          lowSpeed := j.lowSpeed, corrected := false }) ∧
      (0 < d.riseCount → ∀ p, d.pendingRun = some p → run =
        { start := p.start, band := p.band, epoch := p.epoch
          peak := if p.peak.magnitude < a then here else p.peak
          sat := p.sat || j.value.saturated, lowSpeed := p.lowSpeed || j.lowSpeed
          corrected := p.corrected || decide (j.epoch ≠ p.epoch) })
    (¬hasLimits → next.1 = (if d.mode = .disabled then d else cleared .disabled) ∧
      next.2 = if d.mode = .active then [.closed m .noLimits (d.previous.getD j.row) d.level] else []) ∧
    (hasLimits → d.mode = .disabled → next = (cleared .quiet).judge kind l m j) ∧
    (hasLimits → d.mode = .active → ∀ u, level u → (∀ k, level k → k ≤ u) → u < d.level →
      next = { d with level := u, riseCount := 0, riseMin := 0, fallCount := 0, lastHold := none }.judge kind l m j) ∧
    (hasLimits → j.suppressed = true → next.1 = cleared .quiet ∧ (d.mode ≠ .active → next.2 = []) ∧
      (d.mode = .active → ∃ c, next.2 = [.closed m .suppressed (d.previous.getD j.row) c] ∧ c ≤ d.level ∧
        ((∃ k, level k ∧ d.level ≤ k) → c = d.level))) ∧
    (hasLimits → j.suppressed = false → j.value.valid = true →
      (d.mode = .quiet → ∀ e, entered e →
        (e = 0 → next.1 = { d with riseCount := 0, riseMin := 0, pendingRun := none } ∧ next.2 = []) ∧
        (0 < e → d.riseCount + 1 < l.e → ∃ run, rising run ∧ next.2 = [] ∧
          next.1 = { d with riseCount := d.riseCount + 1, riseMin := lowest e, pendingRun := some run }) ∧
        (0 < e → l.e ≤ d.riseCount + 1 → ∃ run, rising run ∧
          let opening : Notice := .opened m run (lowest e) j.row j.epoch j.speed
          (¬(0 < l.maxLength ∧ l.maxLength ≤ d.riseCount + 1) → next.2 = [opening] ∧
            next.1 = { d with
              mode := .active, level := lowest e, riseCount := 0, riseMin := next.1.riseMin, pendingRun := none
              fallCount := 0, previous := some j.row, lastHold := none, runLength := d.riseCount + 1 }) ∧
          (0 < l.maxLength → l.maxLength ≤ d.riseCount + 1 →
            next.1 = cleared .latched ∧ next.2 = [opening, .closed m .long j.row (lowest e)]))) ∧
      (d.mode = .latched →
        next.2 = [] ∧ (¬below 1 → next.1 = { d with releaseCount := 0 }) ∧
        (below 1 → d.releaseCount + 1 < l.x → next.1 = { d with releaseCount := d.releaseCount + 1 }) ∧
        (below 1 → l.x ≤ d.releaseCount + 1 → next.1 = cleared .quiet))) ∧
    (hasLimits → j.suppressed = false → j.value.valid = true → d.mode = .active → level d.level →
      ∀ e c, entered e →
        let long : Prop := 0 < l.maxLength ∧ l.maxLength ≤ min (d.runLength + 1) 65535
        let target : Prop := (c = 0 ∧ ∀ k, level k → k < d.level → below k) ∨
          (level c ∧ c < d.level ∧ ¬below c ∧ ∀ k, level k → k < d.level → ¬below k → k ≤ c)
        let open' (c : Nat) : Prop :=
          (¬long → next.2 = [row c] ∧ next.1 = { d with
            level := c, riseCount := next.1.riseCount, riseMin := next.1.riseMin, fallCount := next.1.fallCount
            previous := some j.row, lastHold := next.1.lastHold, runLength := min (d.runLength + 1) 65535 }) ∧
          (long → next.1 = cleared .latched ∧ next.2 = [row c, .closed m .long j.row c])
        (d.level < e → d.riseCount + 1 < l.e → open' d.level ∧
          (¬long → next.1.riseCount = d.riseCount + 1 ∧ next.1.riseMin = lowest e ∧ next.1.fallCount = 0)) ∧
        (d.level < e → l.e ≤ d.riseCount + 1 → open' (lowest e) ∧
          (¬long → next.1.riseCount = 0 ∧ next.1.fallCount = 0)) ∧
        (e ≤ d.level → ¬below d.level → open' d.level ∧
          (¬long → next.1.riseCount = 0 ∧ next.1.riseMin = 0 ∧ next.1.fallCount = 0 ∧ next.1.lastHold = none)) ∧
        (e ≤ d.level → below d.level → d.fallCount + 1 < l.x → open' d.level ∧
          (¬long → next.1.riseCount = 0 ∧ next.1.riseMin = 0 ∧ next.1.fallCount = d.fallCount + 1 ∧
            next.1.lastHold = if d.fallCount = 0 then d.previous else d.lastHold)) ∧
        (e ≤ d.level → below d.level → l.x ≤ d.fallCount + 1 → target → 0 < c → open' c ∧
          (¬long → next.1.riseCount = 0 ∧ next.1.riseMin = 0 ∧ next.1.fallCount = 0 ∧ next.1.lastHold = none)) ∧
        (e ≤ d.level → below d.level → l.x ≤ d.fallCount + 1 → target → c = 0 → next.1 = cleared .quiet ∧
          next.2 = [row d.level,
            .closed m .fall ((if d.fallCount = 0 then d.previous else d.lastHold).getD j.row) d.level])) ∧
    (hasLimits → j.suppressed = false → j.value.valid = false →
      (d.mode = .quiet → next.1 = { d with riseCount := 0, riseMin := 0, pendingRun := none } ∧ next.2 = []) ∧
      (d.mode = .latched → next.1 = { d with releaseCount := 0 } ∧ next.2 = []) ∧
      (d.mode = .active → level d.level → l.x ≤ d.fallCount + 1 → next.1 = cleared .quiet ∧
        next.2 = [row d.level,
          .closed m .fall ((if d.fallCount = 0 then d.previous else d.lastHold).getD j.row) d.level]) ∧
      (d.mode = .active → level d.level → d.fallCount + 1 < l.x →
        let long : Prop := 0 < l.maxLength ∧ l.maxLength ≤ min (d.runLength + 1) 65535
        (¬long → next.2 = [row d.level] ∧ next.1 = { d with
          riseCount := 0, riseMin := 0, fallCount := d.fallCount + 1, previous := some j.row
          lastHold := if d.fallCount = 0 then d.previous else d.lastHold
          runLength := min (d.runLength + 1) 65535 }) ∧
        (long → next.1 = cleared .latched ∧ next.2 = [row d.level, .closed m .long j.row d.level])))

/-! ### Exception tracking -/

/-- An exceedance at EXT (R155 to R160, R162 to R165): a context taken from the head of the free list or an untracked record
and the lost count, the alert at level 3, the rows that follow, the close with its class, reason, lost_before and place in
the posted queue, and the truncation of whatever is open. -/
def Obligations.ExceptionsOpenFollowAndClose : Prop :=
  (∀ (t : Tracker) (c : ConfigRecord) (m : Fin 16) (run : PendingRun) (level : Nat) (row : RowRef) (epoch : BitVec 8)
    (speed : Nat),
    let u := t.take c (.opened m run level row epoch speed)
    let room : Prop := level = 3 ∧ t.alerts.length < 4
    let alert (k : Option (Fin 32)) : AlertRecord :=
      { measure := m, context := k, band := run.band, start := run.start, startEpoch := run.epoch, row := row
        epoch := epoch, peak := run.peak, speed := speed }
    (∀ (k : Fin 32) (rest : List (Fin 32)), t.ext.free = k :: rest →
      u.ext = { t.ext with
        free := rest
        openMap := t.ext.openMap.set m.val (.tracked k)
        contexts := t.ext.contexts.set k.val
          { state := .opened
            record :=
              { measure := m, band := run.band, start := run.start, startEpoch := run.epoch, openSpeed := speed
                levelOpen := level, levelMax := level, last := row, peak := run.peak, sat := run.sat
                invalidSeen := false, lowSpeed := run.lowSpeed, corrected := run.corrected
                alerted := decide (level = 3), alertLost := decide (level = 3 ∧ 4 ≤ t.alerts.length), cyclic := false
                pitch := none, closing := none } } } ∧
      (room → u.alerts = t.alerts ++ [alert (some k)]) ∧ (¬room → u.alerts = t.alerts)) ∧
    (t.ext.free = [] →
      u.ext = { t.ext with
        openMap := t.ext.openMap.set m.val (.untracked
          { band := run.band, start := run.start, startEpoch := run.epoch, peak := run.peak
            alerted := decide (level = 3) })
        lost := min (t.ext.lost + 1) 255 } ∧
      (room → u.alerts = t.alerts ++ [alert none]) ∧ (¬room → u.alerts = t.alerts))) ∧
  (∀ (t : Tracker) (c : ConfigRecord) (m : Fin 16) (k : Fin 32) (row : RowRef) (epoch : BitVec 8) (valid : Bool)
    (a : Nat) (v : Int) (sat low : Bool) (speed level : Nat), t.ext.openMap[m] = .tracked k →
    let r := (t.ext.contexts[k]).record
    let u := t.take c (.row m row epoch valid a v sat low speed level)
    let raise : Prop := level = 3 ∧ r.alerted = false
    let peak : Peak :=
      if valid = true ∧ r.peak.magnitude < a then { magnitude := a, signed := v, row := row } else r.peak
    u.ext = { t.ext with contexts := t.ext.contexts.set k.val { t.ext.contexts[k] with record := { r with
      last := row
      levelMax := max r.levelMax level
      peak := peak
      sat := r.sat || sat
      invalidSeen := r.invalidSeen || !valid
      lowSpeed := r.lowSpeed || low
      corrected := r.corrected || decide (epoch ≠ r.startEpoch)
      alerted := r.alerted || decide (level = 3)
      alertLost := r.alertLost || decide (level = 3 ∧ r.alerted = false ∧ 4 ≤ t.alerts.length) } } } ∧
    (raise → t.alerts.length < 4 → u.alerts = t.alerts ++
      [{ measure := r.measure, context := some k, band := r.band, start := r.start, startEpoch := r.startEpoch
         row := row, epoch := epoch, peak := peak, speed := speed }]) ∧
    (¬(raise ∧ t.alerts.length < 4) → u.alerts = t.alerts)) ∧
  (∀ (t : Tracker) (c : ConfigRecord) (m : Fin 16) (k : Fin 32) (cause : CloseCause) (endRow : RowRef) (level : Nat),
    t.ext.openMap[m] = .tracked k →
    let r := (t.ext.contexts[k]).record
    let u := t.take c (.closed m cause endRow level)
    let length := (endRow.index - r.start.index).toNat + 1
    let start : RingStart := { position := r.start.position, epoch := r.startEpoch }
    let start? (i : Nat) : RingStart := (start :: t.ext.rings[m]).getD i start
    let spacing (i : Nat) : Int := (start? i).position - (start? (i + 1)).position
    ∃ pitch : Option Int,
      (∀ p, pitch = some p ↔
        2 ≤ c.cyclicCount ∧ cause ≠ .long ∧ c.cyclicCount ≤ (t.ext.rings[m]).length + 1 ∧ p = spacing 0 ∧
        ∀ i, i + 1 < c.cyclicCount → (c.pitchMinMm : Int) ≤ spacing i ∧ spacing i ≤ c.pitchMaxMm ∧
          (spacing i - p).natAbs ≤ c.pitchTolMm ∧ (start? (i + 1)).epoch = start.epoch) ∧
      u.alerts = t.alerts ∧
      u.ext = { t.ext with
        contexts := t.ext.contexts.set k.val
          { state := .posted
            record := { r with
              cyclic := pitch.isSome
              pitch := pitch
              closing := some
                { endRow := endRow, length := length
                  cls := if cause = .long then .long else if length ≤ c.pointLen then .point else .extended
                  reason := match cause with
                    | .fall | .long => .none
                    | .suppressed => .suppressed
                    | .noLimits => .noLimits
                  lostBefore := t.ext.lost } } }
        openMap := t.ext.openMap.set m.val .none
        posted := t.ext.posted ++ [k]
        lost := 0
        rings := t.ext.rings.set m.val
          (if cause = .long then t.ext.rings[m] else (start :: t.ext.rings[m]).take 3) }) ∧
  (∀ (t : Tracker) (c : ConfigRecord) (m : Fin 16) (u : UntrackedRecord), t.ext.openMap[m] = .untracked u →
    (∀ (row : RowRef) (epoch : BitVec 8) (a : Nat) (v : Int) (valid sat low : Bool) (speed level : Nat),
      let peak : Peak :=
        if valid = true ∧ u.peak.magnitude < a then { magnitude := a, signed := v, row := row } else u.peak
      (t.take c (.row m row epoch valid a v sat low speed level)).ext = { t.ext with
        openMap := t.ext.openMap.set m.val (.untracked { u with peak := peak, alerted := u.alerted || decide (level = 3) }) } ∧
      (t.take c (.row m row epoch valid a v sat low speed level)).alerts =
        if level = 3 ∧ u.alerted = false ∧ t.alerts.length < 4 then
          t.alerts ++ [{ measure := m, context := none, band := u.band, start := u.start, startEpoch := u.startEpoch
                         row := row, epoch := epoch, peak := peak, speed := speed }]
        else t.alerts) ∧
    ∀ (cause : CloseCause) (endRow : RowRef) (level : Nat),
      t.take c (.closed m cause endRow level) = { t with ext := { t.ext with
        openMap := t.ext.openMap.set m.val .none
        rings := t.ext.rings.set m.val
          (if cause = .long then t.ext.rings[m]
            else ({ position := u.start.position, epoch := u.startEpoch } :: t.ext.rings[m]).take 3) } }) ∧
  ∀ (x : Ext) (c : ConfigRecord) (lane : Lane), x.PoolLawful lane →
    let t := x.truncate c
    let ended : List (Fin 32) := (List.finRange 16).filterMap fun m => match x.openMap[m] with
      | .tracked k => some k
      | _ => none
    (∀ m : Fin 16, t.openMap[m] = .none) ∧ t.openCount = 0 ∧ t.openRow = x.openRow ∧ t.free = x.free ∧ t.rings = x.rings ∧
    t.posted = x.posted ++ ended ∧ t.lost = (if ended = [] then x.lost else 0) ∧
    ∀ k : Fin 32, (k ∉ ended → t.contexts[k] = x.contexts[k]) ∧
      (k ∈ ended → ∃ fin : Closing, t.contexts[k] =
          { state := .posted, record := { (x.contexts[k]).record with cyclic := false, pitch := none, closing := some fin } } ∧
        fin.endRow = (x.contexts[k]).record.last ∧ fin.reason = .truncated ∧
        fin.length = (fin.endRow.index - (x.contexts[k]).record.start.index).toNat + 1 ∧
        fin.cls = (if fin.length ≤ c.pointLen then .point else .extended) ∧
        fin.lostBefore = if ended.head? = some k then x.lost else 0)

/-! ### Segment statistics -/

/-- WRITE_SLOT in STOPPED and READ_SLOT (R176), FREEZE and THAW (R180) and RESET_STATS (R181), with the layouts of R196 (of READ
SLOT: no presence octet for the peak and no aux, assumption log 11: the model's choice). -/
def Obligations.SlotsAreWrittenReadFrozenAndCleared : Prop :=
  (∀ (s : State) (source : Octet) (tag : Half) (rest : List CommandEntry)
    (i enabled src function threshold invert exclude : Nat), i < 256 → enabled < 256 → src < 256 → function < 256 →
    threshold < 4294967296 → invert < 256 → exclude < 256 →
    s.CanTake (commandEntry source false 0x60 tag (octetsOf 1 i ++ (octetsOf 1 enabled ++ (octetsOf 1 src ++
      (octetsOf 1 function ++ (octetsOf 4 threshold ++ (octetsOf 1 invert ++ octetsOf 1 exclude))))))) rest →
    s.cmu.runState = .stopped →
    let inRange : Prop := i < 8 ∧ enabled < 2 ∧ src < 18 ∧ function < 5 ∧ threshold ≤ 1000000 ∧ invert < 2 ∧ exclude < 2
    (¬inRange → exec .writeSlot s = .next ((s.taken rest).responded source 0x60 tag .badArg [])) ∧
    ∀ h : i < 8, inRange → ∃ entry : SlotEntry,
      entry.enabled = decide (enabled = 1) ∧ entry.threshold = threshold ∧ entry.invert = decide (invert = 1) ∧
      entry.excludeLowSpeed = decide (exclude = 1) ∧
      entry.function = (match function with | 0 => .sigma | 1 => .above | 2 => .starts | 3 => .peak | _ => .sum) ∧
      (src = 16 → entry.source = .openCount) ∧ (src = 17 → entry.source = .speed) ∧
      (∀ m : Fin 16, src = m.val → entry.source = .measure m) ∧
      exec .writeSlot s = .next ({ s.taken rest with stu := { s.stu with
        slots := s.stu.slots.set i entry h
        accumulators := s.stu.accumulators.set i
          ({ n := 0, sum := 0, sumSq := 0, count := 0, peak := none, sat := false } : Accumulators) h
        edges := s.stu.edges.set i false h } }.responded source 0x60 tag .ok [])) ∧
  (∀ (s : State) (source : Octet) (tag : Half) (rest : List CommandEntry) (i : Nat), i < 256 →
    s.CanTake (commandEntry source false 0x61 tag (octetsOf 1 i)) rest →
    (8 ≤ i → exec .readSlot s = .next ((s.taken rest).responded source 0x61 tag .badArg [])) ∧
    ∀ h : i < 8,
      let e := s.stu.slots[i]
      let a := s.stu.accumulators[i]
      let p : SlotPeak := a.peak.getD { value := 0, row := { index := 0, position := 0 } }
      exec .readSlot s = .next ((s.taken rest).responded source 0x61 tag .ok
        ([(if e.enabled then 1 else 0 : Octet), e.source.octet, e.function.octet] ++ octetsOf 4 e.threshold ++
          [(if e.invert then 1 else 0 : Octet), (if e.excludeLowSpeed then 1 else 0 : Octet)] ++
          (octetsOf 4 a.n ++ octetsOf 8 a.sum ++ octetsOf 8 a.sumSq ++ octetsOf 4 a.count ++ octetsOf 4 p.value ++
            octetsOf 4 p.row.index.toNat ++ octetsOf 4 p.row.position ++ [(if a.sat then 1 else 0 : Octet)]) ++
          [(if s.stu.edges[i] then 1 else 0 : Octet)] ++
          [(if a.n = 0 then 1 else if a.sat then 2 else 0 : Octet)] ++ octetsOf 8 ((a.result e.function).getD 0)))) ∧
  ∀ (s : State) (source : Octet) (broadcast : Bool) (tag : Half) (rest : List CommandEntry),
    (s.CanTake (commandEntry source broadcast 0x62 tag []) rest →
      exec .freeze s = .next ({ s.taken rest with stu := { s.stu with
        frozen := true
        segment :=
          if s.stu.frozen then s.stu.segment else s.stu.segment.map fun g : Segment => { g with frozen := true }
        } }.answeredOk broadcast source 0x62 tag [1])) ∧
    (s.CanTake (commandEntry source broadcast 0x63 tag []) rest →
      exec .thaw s = .next ({ s.taken rest with
        stu := { s.stu with frozen := false } }.answeredOk broadcast source 0x63 tag [0])) ∧
    (s.CanTake (commandEntry source false 0x64 tag []) rest →
      exec .resetStats s = .next ({ s.taken rest with stu := { s.stu with
        accumulators := Vector.replicate 8
          ({ n := 0, sum := 0, sumSq := 0, count := 0, peak := none, sat := false } : Accumulators)
        segment := s.stu.segment.map fun g : Segment => { g with invalidRows := 0, partSegment := true }
        } }.responded source 0x64 tag .ok []))

/-- STU_ROW_EVENT and STU_GAP_NOTICE of the run in force (R171 to R175, R177 to R180): the wait for the row's open count, the
segment test with its record, the segment a row opens or joins, and what each slot counts. That count stays as it stands for
SIGMA, PEAK and SUM is assumption log 19: the model's choice. -/
def Obligations.StuRowsTestTheSegmentThenCount : Prop :=
  (∀ (s : State) (r : Row) (rest : List RowItem), s.links.mseToStu = .row r :: rest → s.cmu.runState = .measuring →
    r.run = s.cmu.runNumber → s.ext.openRow ≠ some r.index → exec .stuRowEvent s = .next s) ∧
  (∀ (s : State) (rest : List RowItem), s.links.mseToStu = .gap s.cmu.runNumber :: rest → s.cmu.runState = .measuring →
    exec .stuGapNotice s = .next { s with
      stu := { s.stu with edges := Vector.replicate 8 false }
      links := { s.links with mseToStu := rest } }) ∧
  ∀ (s : State) (r : Row) (rest : List RowItem), s.links.mseToStu = .row r :: rest → s.cmu.runState = .measuring →
    r.run = s.cmu.runNumber → s.ext.openRow = some r.index →
    let number : Int := r.position / (s.cmu.config.segmentM * 1000 : Nat)
    let here : RowRef := { index := r.index, position := r.position }
    let opened (part : Bool) : Segment :=
      { number := number, epoch := r.epoch, first := here, last := here, rowCount := 1, invalidRows := 0
        partSegment := part, unlocated := r.unlocated, frozen := s.stu.frozen, corrected := false, truncated := false }
    let findsInvalid : Prop := ∃ (i : Fin 8) (m : Fin 16), (s.stu.slots[i]).enabled = true ∧
      (s.stu.slots[i]).source = .measure m ∧ (r.measures[m]).valid = false
    let counted (g : Segment) (h : Segment) : Prop :=
      (s.stu.frozen = false → findsInvalid → h = { g with invalidRows := min (g.invalidRows + 1) 4294967295 }) ∧
      (s.stu.frozen = true ∨ ¬findsInvalid → h = g)
    ∃ (t : State) (g : Segment) (fresh : Bool), exec .stuRowEvent s = .next t ∧ t.stu.segment = some g ∧
      t = { s with
        stu := { s.stu with
          segment := some g
          openAfterStart := if fresh then false else s.stu.openAfterStart
          accumulators := t.stu.accumulators
          edges := t.stu.edges }
        ltx := t.ltx
        links := { s.links with mseToStu := rest } } ∧
      (s.stu.segment = none → fresh = true ∧ counted (opened s.stu.openAfterStart) g ∧ t.ltx = s.ltx) ∧
      (∀ old, s.stu.segment = some old →
        (old.epoch ≠ r.epoch → fresh = true ∧ counted (opened true) g ∧
          t.ltx = s.ltx.offerSegment (s.stu.segmentRecord { old with corrected := true })) ∧
        (old.epoch = r.epoch → old.number ≠ number → fresh = true ∧ counted (opened s.stu.openAfterStart) g ∧
          t.ltx = s.ltx.offerSegment (s.stu.segmentRecord old)) ∧
        (old.epoch = r.epoch → old.number = number → fresh = false ∧ t.ltx = s.ltx ∧
          counted { old with
            last := here
            rowCount := min (old.rowCount + 1) 4294967295
            unlocated := old.unlocated || r.unlocated } g)) ∧
      ∀ i : Fin 8,
        let e := s.stu.slots[i]
        let before : Accumulators := if fresh then .zero else s.stu.accumulators[i]
        let value : Option Int := match e.source with
          | .measure m => if (r.measures[m]).valid then some (r.measures[m]).value else none
          | .openCount => some s.ext.openCount
          | .speed => some r.speed
        let counts : Prop := s.stu.frozen = false ∧ e.enabled = true ∧ ¬(r.lowSpeed = true ∧ e.excludeLowSpeed = true)
        (¬counts ∨ value = none → t.stu.accumulators[i] = before ∧ t.stu.edges[i] = s.stu.edges[i]) ∧
        ∀ x, counts → value = some x →
          let qualifies : Bool := if e.invert then decide (x.natAbs < e.threshold) else decide (e.threshold ≤ x.natAbs)
          let adds : Bool := (decide (e.function = .above) && qualifies) ||
            (decide (e.function = .starts) && qualifies && !s.stu.edges[i])
          let count := before.count + if adds then 1 else 0
          t.stu.edges[i] = qualifies ∧
          t.stu.accumulators[i] =
            { n := min (before.n + 1) 4294967295
              sum := max (-9223372036854775808) (min (before.sum + x) 9223372036854775807)
              sumSq := min (before.sumSq + x.natAbs * x.natAbs) 18446744073709551615
              count := min count 4294967295
              peak := match before.peak with
                | none => some { value := x, row := here }
                | some p => if p.value.natAbs < x.natAbs then some { value := x, row := here } else some p
              sat := before.sat || decide (4294967295 < before.n + 1 ∨ before.sum + x < -9223372036854775808 ∨
                9223372036854775807 < before.sum + x ∨ 18446744073709551615 < before.sumSq + x.natAbs * x.natAbs ∨
                4294967295 < count) }

/-- R182, R183: the status, the result and the aux of every function, the entries of a segment record, and the law of the
statistics: of a slot whose accumulators hold the counted values `xs` without saturating, a SIGMA result never exceeds the
largest magnitude among them, nor does its mean. -/
def Obligations.SigmaNeverExceedsTheLargestMagnitude : Prop :=
  (∀ a : Accumulators,
    (a.n = 0 → a.status = .empty ∧ a.result .sigma = none ∧ a.aux .sigma = none ∧ a.result .peak = none ∧
      a.aux .peak = none) ∧
    (0 < a.n → a.status = if a.sat then .sat else .ok) ∧
    (0 < a.n → a.sat = true → a.result .sigma = none ∧ a.aux .sigma = none) ∧
    (0 < a.n → a.sat = false → a.sum * a.sum ≤ (a.n : Int) * a.sumSq →
      a.result .sigma = some ((isqrt ((a.n : Int) * a.sumSq - a.sum * a.sum).toNat / a.n : Nat) : Int) ∧
      a.aux .sigma = some (nearest a.sum a.n)) ∧
    (0 < a.n → ∀ p, a.peak = some p → a.result .peak = some p.value ∧ a.aux .peak = some p.row.position) ∧
    a.result .above = some (a.count : Int) ∧ a.result .starts = some (a.count : Int) ∧ a.result .sum = some a.sum ∧
    a.aux .above = none ∧ a.aux .starts = none ∧ a.aux .sum = none) ∧
  (∀ (x : Stu) (g : Segment), x.segmentRecord g =
    { segment := g
      lostBefore := 0
      entries := ((List.finRange 8).filter fun i : Fin 8 => (x.slots[i]).enabled).map fun i : Fin 8 =>
        { slot := i, function := (x.slots[i]).function, source := (x.slots[i]).source
          status := (x.accumulators[i]).status, n := (x.accumulators[i]).n
          result := (x.accumulators[i]).result (x.slots[i]).function
          aux := (x.accumulators[i]).aux (x.slots[i]).function } }) ∧
  ∀ (xs : List (Int × RowRef × Bool)) (bound : Nat), (∀ x ∈ xs, x.1.natAbs ≤ bound) →
    let a := xs.foldl (fun (a : Accumulators) x => a.add x.1 x.2.1 x.2.2) .zero
    (xs = [] → a.status = .empty ∧ a.result .sigma = none ∧ a.aux .sigma = none ∧ a.result .peak = none) ∧
    (xs ≠ [] → a.sat = true → a.status = .sat ∧ a.result .sigma = none ∧ a.aux .sigma = none) ∧
    (xs ≠ [] → a.sat = false → a.status = .ok ∧ a.n = xs.length ∧ a.result .sum = some (xs.map Prod.fst).sum ∧
      ∃ sigma mean : Int, a.result .sigma = some sigma ∧ a.aux .sigma = some mean ∧
        0 ≤ sigma ∧ sigma ≤ bound ∧ mean.natAbs ≤ bound ∧
        sigma * sigma * (a.n * a.n : Nat) ≤ (a.n : Int) * a.sumSq - a.sum * a.sum ∧
        (a.n : Int) * a.sumSq - a.sum * a.sum < (sigma + 1) * (sigma + 1) * (a.n * a.n : Nat))

/-! ### The frame link transmitter -/

/-- R194, R188: the OPEN row block becomes PENDING and joins the closing order, and nothing happens with none OPEN; a location
or segment record joins its queue with the lost count, or is dropped and counted. -/
def Obligations.BlocksCloseAndRecordsJoinOrAreCounted : Prop :=
  (∀ l : Ltx, (∀ (i : Fin 2) (b : Block), l.buffers[i] ≠ .filling b) → l.closeBlock = l) ∧
  (∀ (l : Ltx) (i : Fin 2) (b : Block), l.buffers[i] = .filling b →
    (∀ (j : Fin 2) (c : Block), j ≠ i → l.buffers[j] ≠ .filling c) →
    l.closeBlock = { l with buffers := l.buffers.set i.val (.pending b), closedOrder := l.closedOrder ++ [i] }) ∧
  (∀ (l : Ltx) (r : LocationRecord),
    (l.locations.length < 8 → l.offerLocation r = { l with
      locations := l.locations ++ [{ r with lost := l.locationLost }], locationLost := 0 }) ∧
    (8 ≤ l.locations.length → l.offerLocation r = { l with locationLost := min (l.locationLost + 1) 255 })) ∧
  ∀ (l : Ltx) (r : SegmentRecord),
    (l.segments.length < 4 → l.offerSegment r = { l with
      segments := l.segments ++ [{ r with lostBefore := l.segmentLost }], segmentLost := 0 }) ∧
    (4 ≤ l.segments.length → l.offerSegment r = { l with segmentLost := min (l.segmentLost + 1) 255 })

/-- HOLD and GO (R185), and ARBITER_CHOICE (R186, R187, R166; a step of its own, assumption log 14): nothing begins while the
lane is taken or the hold state is HOLD, and otherwise the first kind in rank order that has an entry is taken and its
frame goes out, to the command's source for a response and to report_dest for every report; and the payload of each kind,
field by field (R196), every number high octet first and in two's complement. That bit n of a block's stream mask names Mn
is assumption log 31: the model's choice. -/
def Obligations.TheArbiterTakesTheFirstKindInRank : Prop :=
  (∀ s : State, exec .hold s = .next { s with ltx := { s.ltx with hold := .hold } } ∧
    exec .go s = .next { s with ltx := { s.ltx with hold := .go } }) ∧
  (∀ s : State, s.ltx.lane ≠ .idle ∨ s.ltx.hold = .hold → exec .arbiterChoice s = .next s) ∧
  (∀ (destination source kind : Octet) (payload : List Octet),
    let body := destination :: source :: kind :: (octetsOf 2 payload.length ++ payload)
    frameOctets destination source kind payload = body ++ octetsOf 2 (checkWord body).toNat) ∧
  (∀ (w : Nat) (x : Int), (octetsOf w x).length = w ∧
    ∀ i, i < w → (octetsOf w x)[i]? = some (BitVec.ofInt 8 (x / (256 ^ (w - 1 - i) : Nat)))) ∧
  (let bit (b : Bool) : Nat := if b then 1 else 0
    let place (r : RowRef) : List Octet := octetsOf 4 r.index.toNat ++ octetsOf 4 r.position
    (∀ r : Response, r.payload.length = 4 + r.results.length ∧
      r.payload = [r.code] ++ octetsOf 2 r.tag.toNat ++ [(match r.status with
        | .ok => 0 | .state => 1 | .badArg => 2 | .badTable => 3 | .full => 4 | .order => 5 | .notFound => 6
        | .unknown => 7 | .length => 8 | .busy => 9 | .aborted => 10 | .timeout => 11 : Octet)] ++ r.results) ∧
    (∀ b : Block,
      let measures := (List.finRange 16).filter fun m : Fin 16 => b.mask.getLsbD m.val
      b.payload.length = 6 + b.rows.length * (14 + 4 * measures.length) ∧
      b.payload = [BitVec.ofNat 8 (bit b.gapBefore)] ++ octetsOf 1 b.rows.length ++ octetsOf 2 b.skipped ++
        octetsOf 2 b.mask.toNat ++ b.rows.flatMap fun r : Row =>
          octetsOf 4 r.index.toNat ++ octetsOf 4 r.position ++ octetsOf 2 r.speed ++ octetsOf 1 r.epoch.toNat ++
            [BitVec.ofNat 8 (r.band.val + 8 * bit r.unlocated + 16 * bit r.lowSpeed + 32 * bit r.seqGap +
              64 * bit r.cantTable)] ++
            octetsOf 2 r.suppress.toNat ++
            measures.flatMap fun m : Fin 16 => octetsOf 3 (r.measures[m]).value ++
              [BitVec.ofNat 8 (bit (r.measures[m]).valid + 2 * bit (r.measures[m]).saturated)]) ∧
    (∀ (k : Fin 32) (x : ExceptionRecord) (c : Closing), x.closing = some c → (x.payload k).length = 52 ∧
      x.payload k = octetsOf 1 k.val ++ octetsOf 1 x.measure.val ++ octetsOf 1 x.band.val ++
        octetsOf 1 x.levelOpen ++ octetsOf 1 x.levelMax ++
        [(match c.cls with | .point => 0 | .extended => 1 | .long => 2 : Octet),
          (match c.reason with | .none => 0 | .truncated => 1 | .suppressed => 2 | .noLimits => 3 : Octet),
          BitVec.ofNat 8 (bit x.sat + 2 * bit x.invalidSeen + 4 * bit x.lowSpeed + 8 * bit x.corrected +
            16 * bit x.alerted + 32 * bit x.alertLost + 64 * bit x.cyclic)] ++
        place x.start ++ octetsOf 1 x.startEpoch.toNat ++ place c.endRow ++ octetsOf 4 c.length ++
        octetsOf 4 x.peak.magnitude ++ octetsOf 4 x.peak.signed ++ place x.peak.row ++ octetsOf 2 x.openSpeed ++
        octetsOf 4 (x.pitch.getD 0) ++ octetsOf 1 c.lostBefore) ∧
    (∀ a : AlertRecord, a.payload.length = 40 ∧
      a.payload = octetsOf 1 a.measure.val ++ octetsOf 1 ((a.context.map Fin.val).getD 0 : Nat) ++
        [BitVec.ofNat 8 (bit (decide (a.context = none)))] ++ octetsOf 1 a.band.val ++ place a.start ++
        octetsOf 1 a.startEpoch.toNat ++ place a.row ++ octetsOf 1 a.epoch.toNat ++ octetsOf 4 a.peak.magnitude ++
        octetsOf 4 a.peak.signed ++ place a.peak.row ++ octetsOf 2 a.speed) ∧
    (∀ r : LocationRecord,
      let record (code flags id : Nat) (position : Int) (window : Nat) (δ : Int) : List Octet :=
        octetsOf 1 code ++ [BitVec.ofNat 8 (bit r.located + flags)] ++ octetsOf 1 r.lost ++
          octetsOf 1 r.epoch.toNat ++ octetsOf 4 r.measured ++ octetsOf 4 r.offset ++ octetsOf 2 id ++
          octetsOf 4 position ++ octetsOf 2 window ++ octetsOf 4 δ
      r.payload.length = 24 ∧ r.payload = match r.kind with
        | .markApplied q e δ => record 1 0 q e.position e.window δ
        | .markRejected q e δ .window => record 2 0 q e.position e.window δ
        | .markRejected q e δ .range => record 2 4 q e.position e.window δ
        | .markUnknown q => record 3 0 q 0 0 0
        | .positionSet δ => record 4 0 0 0 0 δ
        | .reverseSuspend => record 5 0 0 0 0 0
        | .locationLost was => record 6 (2 * bit was) 0 0 0 0) ∧
    ∀ r : SegmentRecord, r.payload.length = 32 + 21 * r.entries.length ∧
      r.payload = octetsOf 4 r.segment.number ++ octetsOf 1 r.segment.epoch.toNat ++
        [BitVec.ofNat 8 (bit r.segment.partSegment + 2 * bit r.segment.corrected + 4 * bit r.segment.truncated +
          8 * bit r.segment.frozen + 16 * bit r.segment.unlocated)] ++
        octetsOf 1 r.lostBefore ++ octetsOf 1 r.entries.length ++ place r.segment.first ++ place r.segment.last ++
        octetsOf 4 r.segment.rowCount ++ octetsOf 4 r.segment.invalidRows ++ r.entries.flatMap fun x : SlotResult =>
          octetsOf 1 x.slot.val ++
            [(match x.function with | .sigma => 0 | .above => 1 | .starts => 2 | .peak => 3 | .sum => 4 : Octet),
              (match x.source with | .measure m => BitVec.ofNat 8 m.val | .openCount => 16 | .speed => 17 : Octet),
              (match x.status with | .ok => 0 | .empty => 1 | .sat => 2 : Octet),
              BitVec.ofNat 8 (bit x.result.isSome + 2 * bit x.aux.isSome)] ++
            octetsOf 4 x.n ++ octetsOf 8 (x.result.getD 0) ++ octetsOf 4 (x.aux.getD 0)) ∧
  ∀ s : State, s.ltx.lane = .idle → s.ltx.hold = .go →
    let frame (destination kind : Octet) (payload : List Octet) : List LaneSymbol :=
      .start :: (frameOctets destination s.stationOctet kind payload).map .octet
    let report (kind : Octet) (payload : List Octet) : List LaneSymbol := frame s.cmu.config.reportDest kind payload
    (∀ a rest, s.ltx.alerts = a :: rest → exec .arbiterChoice s = .next { s with
      ltx := { s.ltx with lane := .own .alert, alerts := rest }
      outbound := s.outbound ++ report 0x36 a.payload }) ∧
    (s.ltx.alerts = [] →
      (∀ f rest, s.ltx.forward = f :: rest → exec .arbiterChoice s = .next { s with
        ltx := { s.ltx with lane := .forwarded }, outbound := s.outbound ++ .start :: f.map .octet }) ∧
      (s.ltx.forward = [] →
        (∀ r rest, s.ltx.responses = r :: rest → exec .arbiterChoice s = .next { s with
          ltx := { s.ltx with lane := .own (.response r), responses := rest }
          outbound := s.outbound ++ frame r.destination 0x33 r.payload }) ∧
        (s.ltx.responses = [] →
          (∀ r rest, s.ltx.locations = r :: rest → exec .arbiterChoice s = .next { s with
            ltx := { s.ltx with lane := .own .location, locations := rest }
            outbound := s.outbound ++ report 0x37 r.payload }) ∧
          (s.ltx.locations = [] →
            (∀ k rest, s.ext.posted = k :: rest → (∀ j : Fin 32, (s.ext.contexts[j]).state ≠ .sending) →
              exec .arbiterChoice s = .next { s with
                ltx := { s.ltx with lane := .own (.exception k) }
                ext := { s.ext with
                  posted := rest
                  contexts := s.ext.contexts.set k.val { s.ext.contexts[k] with state := .sending } }
                outbound := s.outbound ++ report 0x35 ((s.ext.contexts[k]).record.payload k) }) ∧
            (s.ext.posted = [] →
              (∀ r rest, s.ltx.segments = r :: rest → exec .arbiterChoice s = .next { s with
                ltx := { s.ltx with lane := .own .segment, segments := rest }
                outbound := s.outbound ++ report 0x38 r.payload }) ∧
              (s.ltx.segments = [] →
                (∀ (i : Fin 2) (b : Block) (rest : List (Fin 2)), s.ltx.closedOrder = i :: rest →
                  s.ltx.buffers[i] = .pending b → exec .arbiterChoice s = .next { s with
                    ltx := { s.ltx with
                      lane := .own (.rows i), buffers := s.ltx.buffers.set i.val (.sending b), closedOrder := rest }
                    outbound := s.outbound ++ report 0x34 b.payload }) ∧
                (s.ltx.closedOrder = [] → exec .arbiterChoice s = .next s)))))))

/-- TRANSMISSION_END (R166, R187): END goes out and the lane becomes IDLE; the frame's completion frees a forwarded frame's
place, an EXCEPTION's context or a ROWS buffer, and of a response only an executed RESET brings more (R36). -/
def Obligations.TransmissionEndCompletesTheFrame : Prop :=
  ∀ s : State,
    (s.ltx.lane = .idle ∨ s.ltx.lane = .cutThrough → exec .transmissionEnd s = .next s) ∧
    (s.ltx.lane = .forwarded → exec .transmissionEnd s = .next { s with
      ltx := { s.ltx with lane := .idle, forward := s.ltx.forward.tail }, outbound := s.outbound ++ [.endFrame] }) ∧
    (∀ f, s.ltx.lane = .own f →
      (f = .alert ∨ f = .location ∨ f = .segment ∨
        (∃ r, f = .response r ∧ (r.status ≠ .ok ∨ (r.code ≠ 0x03 ∧ r.code ≠ 0x04))) →
        exec .transmissionEnd s = .next { s with
          ltx := { s.ltx with lane := .idle }, outbound := s.outbound ++ [.endFrame] }) ∧
      (∀ k, f = .exception k → exec .transmissionEnd s = .next { s with
        ltx := { s.ltx with lane := .idle }
        ext := { s.ext with
          contexts := s.ext.contexts.set k.val { s.ext.contexts[k] with state := .free }, free := s.ext.free ++ [k] }
        outbound := s.outbound ++ [.endFrame] }) ∧
      ∀ i, f = .rows i → exec .transmissionEnd s = .next { s with
        ltx := { s.ltx with lane := .idle, buffers := s.ltx.buffers.set i.val .empty }
        outbound := s.outbound ++ [.endFrame] })

/-- LTX_ROW and LTX_GAP_NOTICE of the run in force (R193 to R195): the row joins the OPEN block, or opens one in an EMPTY buffer
(the lower-numbered of two, assumption log 15: the model's choice) with the settings, the skipped rows and the gap mark, or
is skipped and counted; a block at its effective size closes; a gap closes the block and sets the mark. -/
def Obligations.RowsFillTheOpenBlock : Prop :=
  (∀ (s : State) (r : Row) (rest : List RowItem), s.links.mseToLtx = .row r :: rest → s.cmu.runState = .measuring →
    r.run = s.cmu.runNumber →
    let kept (l : Ltx) : State := { s with ltx := l, links := { s.links with mseToLtx := rest } }
    let placed (l : Ltx) (i : Fin 2) (b : Block) : Ltx :=
      if b.effectiveSize ≤ b.rows.length then
        { l with buffers := s.ltx.buffers.set i.val (.pending b), closedOrder := s.ltx.closedOrder ++ [i] }
      else { l with buffers := s.ltx.buffers.set i.val (.filling b) }
    let width := ((List.finRange 16).filter fun m : Fin 16 => s.cmu.streamMask.getLsbD m.val).length
    let first : Block :=
      { mask := s.cmu.streamMask, effectiveSize := min s.cmu.blockSize (1018 / (14 + 4 * width))
        skipped := s.ltx.skippedRows, gapBefore := s.ltx.gapMark, rows := [r] }
    let opened (i : Fin 2) : State := kept (placed { s.ltx with skippedRows := 0, gapMark := false } i first)
    (∀ (i : Fin 2) (b : Block), s.ltx.buffers[i] = .filling b →
      (∀ (j : Fin 2) (c : Block), j ≠ i → s.ltx.buffers[j] ≠ .filling c) →
      exec .ltxRow s = .next (kept (placed s.ltx i { b with rows := b.rows ++ [r] }))) ∧
    ((∀ (i : Fin 2) (b : Block), s.ltx.buffers[i] ≠ .filling b) →
      (s.ltx.buffers[(0 : Fin 2)] = .empty → exec .ltxRow s = .next (opened 0)) ∧
      (s.ltx.buffers[(0 : Fin 2)] ≠ .empty → s.ltx.buffers[(1 : Fin 2)] = .empty →
        exec .ltxRow s = .next (opened 1)) ∧
      ((∀ i : Fin 2, s.ltx.buffers[i] ≠ .empty) → exec .ltxRow s = .next
        (kept { s.ltx with skippedRows := min (s.ltx.skippedRows + 1) 65535 })))) ∧
  (∀ (s : State) (rest : List RowItem), s.links.mseToLtx = .gap s.cmu.runNumber :: rest → s.cmu.runState = .measuring →
    exec .ltxGapNotice s = .next { s with
      ltx := { s.ltx.closeBlock with gapMark := true }, links := { s.links with mseToLtx := rest } }) ∧
  ∀ s : State, s.links.mseToLtx = [] → exec .ltxRow s = .next s ∧ exec .ltxGapNotice s = .next s

/-! ### What every step keeps -/

/-- R16, R18, R22, R23, R57, R105, R150, R184: no queue holds more than its capacity, no count passes its limit, ODO's hand-over
keeps the shape of a frame event, and no more than one row waits at EXD or at STU. -/
def Obligations.QueuesAndCountsStayWithinTheirLimits : Prop :=
  (∀ s t : State, s.QueuesBounded → step s = .next t → t.QueuesBounded) ∧
  (∀ s t : State, s.CountsBounded → step s = .next t → t.CountsBounded) ∧
  (∀ s t : State, handOverShape s.links.odoToLoc = true → step s = .next t → handOverShape t.links.odoToLoc = true) ∧
  ∀ s t : State, ((s.links.mseToExd.filter RowItem.isRow).length ≤ 1 ∧ (s.links.mseToStu.filter RowItem.isRow).length ≤ 1) →
    step s = .next t →
    (t.links.mseToExd.filter RowItem.isRow).length ≤ 1 ∧ (t.links.mseToStu.filter RowItem.isRow).length ≤ 1

/-- R4, R7, R8, R13, R190, R191: the frame being assembled, its header, its running check word and the copy passed on agree
after every step: a stored copy holds, and a cut-through copy has sent since its START, exactly the octets handed over. -/
def Obligations.TheReceiverAndItsCopyStayCoherent : Prop :=
  ∀ s t : State, s.LinkCoherent → step s = .next t → t.LinkCoherent

/-- R33, R35, R116, R117, R129, R130: every command leaves the configuration record, the stream settings, the measure table and
their alignment cross-check lawful, and every limit set within its rules. -/
def Obligations.SettingsStayLawful : Prop :=
  (∀ s t : State, s.SettingsLawful → step s = .next t → t.SettingsLawful) ∧
  ∀ s t : State, (∀ (b : Fin 5) (m : Fin 16), (s.exd.limitSet b m).Lawful) → step s = .next t →
    ∀ (b : Fin 5) (m : Fin 16), (t.exd.limitSet b m).Lawful

/-- R56, R64, R65: the odometer, the rollback, the next sample point and the filtered speed stay in range, and the odometer
never decreases but at a reset. -/
def Obligations.TheOdometerStaysInRangeAndNeverDecreases : Prop :=
  (∀ s t : State, s.SettingsLawful → s.odo.InRange → step s = .next t → t.odo.InRange) ∧
  ∀ (c : Instr) (s t : State), s.odo.d ≤ 1099511627775 → exec c s = .next t → (∀ straps, c ≠ .powerOnReset straps) →
    ¬(c = .transmissionEnd ∧ ∃ r, s.ltx.lane = .own (.response r) ∧ r.resets ≠ none) → s.odo.d ≤ t.odo.d

/-- R84, R90, R91, R98, R101: the mark table keeps each id once and at most 256 entries, the section table its order, its spans
and at most 512 entries, the cursor stays within it and the offset within 32 bits. -/
def Obligations.LocationTablesStayLawful : Prop :=
  ∀ s t : State, s.loc.Lawful → step s = .next t → t.loc.Lawful

/-- R133, R140, R150, R152, R154: detectors, exception contexts, the free list, the posted queue and the open map agree after
every step: a context is OPEN exactly when one measure's entry names it, an entry is none exactly while its detector is
not ACTIVE, a detector in QUIET has a pending run exactly while its rise count is above 0, and outside MEASURING every
detector is QUIET or DISABLED. -/
def Obligations.DetectorsContextsAndTheOpenMapStayInStep : Prop :=
  ∀ s t : State, s.TrackingLawful → step s = .next t → t.TrackingLawful

/-- R104, R110, R111, R119, R178: every history slot holds an index that uses it, parameter values and baselines stay within
1,000,000 counts of 0, and every slot's accumulators stay in their widths. -/
def Obligations.HistoryAndStatisticsStayInRange : Prop :=
  (∀ s t : State, s.mse.Lawful → step s = .next t → t.mse.Lawful) ∧
  ∀ s t : State, (∀ i : Fin 8, (s.stu.accumulators[i]).InRange) → step s = .next t →
    ∀ i : Fin 8, (t.stu.accumulators[i]).InRange

/-- R184, R186, R187, R193: at most one row block is OPEN, the closing order names the PENDING buffers, the lane sends ROWS
exactly while a buffer is SENDING, and every block fits in one frame. -/
def Obligations.RowBlockBuffersStayLawful : Prop :=
  ∀ s t : State, s.SettingsLawful → s.ltx.BuffersLawful → step s = .next t → t.ltx.BuffersLawful

/-- Every invariant stated above holds right after power-on reset. -/
def Obligations.ResetMeetsEveryInvariant : Prop :=
  State.reset.QueuesBounded ∧ State.reset.CountsBounded ∧ handOverShape State.reset.links.odoToLoc = true ∧
    State.reset.links.mseToExd = [] ∧ State.reset.links.mseToStu = [] ∧ State.reset.LinkCoherent ∧
    State.reset.SettingsLawful ∧ (∀ (b : Fin 5) (m : Fin 16), (State.reset.exd.limitSet b m).Lawful) ∧
    State.reset.odo.InRange ∧ State.reset.loc.Lawful ∧ State.reset.TrackingLawful ∧ State.reset.mse.Lawful ∧
    (∀ i : Fin 8, (State.reset.stu.accumulators[i]).InRange) ∧ State.reset.ltx.BuffersLawful ∧
    State.reset.cal.zero = .idle
end

