-- ==== Sys2Proof/Laws/Octets.lean ====
section
/-! SUPPORT. Fields written by octetsOf are read back by field and signedField (R196). -/

namespace Sys2Proof.Machine

@[simp] theorem octetsOf_length (w : Nat) (x : Int) : (octetsOf w x).length = w := by
  induction w generalizing x with
  | zero => rfl
  | succ w ih => simp [octetsOf, ih]

/-- The octets of an unsigned number read so far, `a` being what stood before them. -/
theorem natOf_from (os : List Octet) (a : Nat) :
    os.foldl (fun a o => a * 256 + o.toNat) a = a * 256 ^ os.length + natOf os := by
  induction os generalizing a with
  | nil => simp [natOf]
  | cons o os ih =>
    simp only [List.foldl_cons, List.length_cons, natOf]
    rw [ih, ih (0 * 256 + o.toNat), pow_succ]
    ring

theorem natOf_cons (o : Octet) (os : List Octet) : natOf (o :: os) = o.toNat * 256 ^ os.length + natOf os := by
  have := natOf_from os o.toNat
  simpa [natOf] using this

theorem natOf_append (a b : List Octet) : natOf (a ++ b) = natOf a * 256 ^ b.length + natOf b := by
  rw [natOf, List.foldl_append, natOf_from]
  rfl

theorem natOf_lt (os : List Octet) : natOf os < 256 ^ os.length := by
  induction os with
  | nil => simp [natOf]
  | cons o os ih =>
    have h := o.isLt
    rw [natOf_cons, List.length_cons, pow_succ]
    have : o.toNat * 256 ^ os.length ≤ 255 * 256 ^ os.length := Nat.mul_le_mul_right _ (by omega)
    omega

/-- An octet of a number, as a residue. -/
theorem octet_toNat (x : Int) : ((BitVec.ofInt 8 x).toNat : Int) = x % 256 := by
  rw [BitVec.toNat_ofInt]
  have : (0 : Int) ≤ x % (2 ^ 8 : Nat) := Int.emod_nonneg _ (by decide)
  rw [Int.toNat_of_nonneg this]
  norm_num

/-- R196: a number written in `w` octets is read back modulo 256^w. -/
theorem natOf_octetsOf (w : Nat) (x : Int) : (natOf (octetsOf w x) : Int) = x % (256 ^ w : Nat) := by
  induction w generalizing x with
  | zero => simp [octetsOf, natOf]
  | succ w ih =>
    rw [octetsOf, natOf_cons, octetsOf_length]
    push_cast
    rw [ih, octet_toNat]
    push_cast
    have h := Int.emod_emod_of_dvd x (show (256 ^ w : Int) ∣ 256 ^ (w + 1) from ⟨256, by ring⟩)
    have hq : x / 256 ^ w % 256 = x % 256 ^ (w + 1) / 256 ^ w := by
      rw [pow_succ, Int.emod_def x (256 ^ w * 256)]
      have hp : (0 : Int) < 256 ^ w := by positivity
      rw [show x - 256 ^ w * 256 * (x / (256 ^ w * 256)) = x + 256 ^ w * (-(256 * (x / (256 ^ w * 256)))) by ring,
        Int.add_mul_ediv_left _ _ (ne_of_gt hp), Int.emod_def, Int.ediv_ediv_of_nonneg (le_of_lt hp)]
      ring
    rw [hq, ← h, mul_comm]
    exact Int.mul_ediv_add_emod _ _

/-- R196: a field that stands in front is read as it was written. -/
theorem field_octetsOf (w : Nat) (x : Nat) (rest : List Octet) (h : x < 256 ^ w) :
    field (octetsOf w (x : Int) ++ rest) 0 w = x := by
  have hl : (octetsOf w (x : Int)).length = w := octetsOf_length w x
  have ht : (octetsOf w (x : Int) ++ rest).take w = octetsOf w (x : Int) := by
    rw [List.take_append_of_le_length (by omega), List.take_of_length_le (by omega)]
  have hn := natOf_octetsOf w (x : Int)
  rw [Int.emod_eq_of_lt (by positivity) (by exact_mod_cast h)] at hn
  simpa [field, ht] using (by exact_mod_cast hn : natOf (octetsOf w (x : Int)) = x)

/-- R196: the last field of a payload is read as it was written. -/
theorem field_octetsOf_last (w : Nat) (x : Nat) (h : x < 256 ^ w) : field (octetsOf w (x : Int)) 0 w = x := by
  simpa using field_octetsOf w x [] h

/-- R196: a field behind others is found past them. -/
theorem field_append_right (a b : List Octet) (k w : Nat) (h : a.length ≤ k) :
    field (a ++ b) k w = field b (k - a.length) w := by
  simp [field, List.drop_append, List.drop_eq_nil_of_le h]

/-- R196: a field of no octets before it, read from a list that begins with one octet. -/
theorem field_cons_zero_one (o : Octet) (os : List Octet) : field (o :: os) 0 1 = o.toNat := by
  simp [field, natOf]

theorem field_cons_succ (o : Octet) (os : List Octet) (k w : Nat) : field (o :: os) (k + 1) w = field os k w := by
  simp [field]

/-- R196: a signed field is read as it was written. -/
theorem signedField_of_front (w : Nat) (x : Int) (rest : List Octet)
    (hlo : -((256 ^ w : Nat) : Int) ≤ 2 * x) (hhi : 2 * x < ((256 ^ w : Nat) : Int)) :
    signedField (octetsOf w x ++ rest) 0 w = x := by
  have hl : (octetsOf w x).length = w := octetsOf_length w x
  have ht : (octetsOf w x ++ rest).take w = octetsOf w x := by
    rw [List.take_append_of_le_length (by omega), List.take_of_length_le (by omega)]
  have hn := natOf_octetsOf w x
  have hf : field (octetsOf w x ++ rest) 0 w = natOf (octetsOf w x) := by simp [field, ht]
  have hp : (0 : Int) < ((256 ^ w : Nat) : Int) := by exact_mod_cast Nat.pow_pos (by decide)
  unfold signedField
  rw [hf]
  rcases lt_or_ge x 0 with hx | hx
  · have hm : x % ((256 ^ w : Nat) : Int) = x + ((256 ^ w : Nat) : Int) := by
      rw [← Int.add_emod_right, Int.emod_eq_of_lt (by omega) (by omega)]
    rw [hm] at hn
    rw [if_neg (by omega)]
    omega
  · rw [Int.emod_eq_of_lt hx (by omega)] at hn
    rw [if_pos (by omega)]
    omega

/-- R196: a signed field behind others is found past them. -/
theorem signedField_append_right (a b : List Octet) (k w : Nat) (h : a.length ≤ k) :
    signedField (a ++ b) k w = signedField b (k - a.length) w := by
  simp [signedField, field_append_right a b k w h]

theorem signedField_octetsOf_last (w : Nat) (x : Int) (hlo : -((256 ^ w : Nat) : Int) ≤ 2 * x)
    (hhi : 2 * x < ((256 ^ w : Nat) : Int)) : signedField (octetsOf w x) 0 w = x := by
  simpa using signedField_of_front w x [] hlo hhi

end Sys2Proof.Machine
end

