-- ==== Sys2Proof/Laws/State.lean ====
section
/-! SUPPORT. The fields of the state after each update of one block (true by rfl), so that no later proof unfolds an update. -/

namespace Sys2Proof.Machine

@[simp] theorem State.withLineLock_station (s : State) (x : Bool) : (s.withLineLock x).station = s.station := rfl
@[simp] theorem State.withLineLock_lineLock (s : State) (x : Bool) : (s.withLineLock x).lineLock = x := rfl
@[simp] theorem State.withLineLock_lrx (s : State) (x : Bool) : (s.withLineLock x).lrx = s.lrx := rfl
@[simp] theorem State.withLineLock_cmu (s : State) (x : Bool) : (s.withLineLock x).cmu = s.cmu := rfl
@[simp] theorem State.withLineLock_cal (s : State) (x : Bool) : (s.withLineLock x).cal = s.cal := rfl
@[simp] theorem State.withLineLock_odo (s : State) (x : Bool) : (s.withLineLock x).odo = s.odo := rfl
@[simp] theorem State.withLineLock_loc (s : State) (x : Bool) : (s.withLineLock x).loc = s.loc := rfl
@[simp] theorem State.withLineLock_mse (s : State) (x : Bool) : (s.withLineLock x).mse = s.mse := rfl
@[simp] theorem State.withLineLock_exd (s : State) (x : Bool) : (s.withLineLock x).exd = s.exd := rfl
@[simp] theorem State.withLineLock_ext (s : State) (x : Bool) : (s.withLineLock x).ext = s.ext := rfl
@[simp] theorem State.withLineLock_stu (s : State) (x : Bool) : (s.withLineLock x).stu = s.stu := rfl
@[simp] theorem State.withLineLock_ltx (s : State) (x : Bool) : (s.withLineLock x).ltx = s.ltx := rfl
@[simp] theorem State.withLineLock_links (s : State) (x : Bool) : (s.withLineLock x).links = s.links := rfl
@[simp] theorem State.withLineLock_outbound (s : State) (x : Bool) : (s.withLineLock x).outbound = s.outbound := rfl
@[simp] theorem State.withLineLock_pending (s : State) (x : Bool) : (s.withLineLock x).pending = s.pending := rfl

@[simp] theorem State.withLrx_station (s : State) (x : Lrx) : (s.withLrx x).station = s.station := rfl
@[simp] theorem State.withLrx_lineLock (s : State) (x : Lrx) : (s.withLrx x).lineLock = s.lineLock := rfl
@[simp] theorem State.withLrx_lrx (s : State) (x : Lrx) : (s.withLrx x).lrx = x := rfl
@[simp] theorem State.withLrx_cmu (s : State) (x : Lrx) : (s.withLrx x).cmu = s.cmu := rfl
@[simp] theorem State.withLrx_cal (s : State) (x : Lrx) : (s.withLrx x).cal = s.cal := rfl
@[simp] theorem State.withLrx_odo (s : State) (x : Lrx) : (s.withLrx x).odo = s.odo := rfl
@[simp] theorem State.withLrx_loc (s : State) (x : Lrx) : (s.withLrx x).loc = s.loc := rfl
@[simp] theorem State.withLrx_mse (s : State) (x : Lrx) : (s.withLrx x).mse = s.mse := rfl
@[simp] theorem State.withLrx_exd (s : State) (x : Lrx) : (s.withLrx x).exd = s.exd := rfl
@[simp] theorem State.withLrx_ext (s : State) (x : Lrx) : (s.withLrx x).ext = s.ext := rfl
@[simp] theorem State.withLrx_stu (s : State) (x : Lrx) : (s.withLrx x).stu = s.stu := rfl
@[simp] theorem State.withLrx_ltx (s : State) (x : Lrx) : (s.withLrx x).ltx = s.ltx := rfl
@[simp] theorem State.withLrx_links (s : State) (x : Lrx) : (s.withLrx x).links = s.links := rfl
@[simp] theorem State.withLrx_outbound (s : State) (x : Lrx) : (s.withLrx x).outbound = s.outbound := rfl
@[simp] theorem State.withLrx_pending (s : State) (x : Lrx) : (s.withLrx x).pending = s.pending := rfl

@[simp] theorem State.withCmu_station (s : State) (x : Cmu) : (s.withCmu x).station = s.station := rfl
@[simp] theorem State.withCmu_lineLock (s : State) (x : Cmu) : (s.withCmu x).lineLock = s.lineLock := rfl
@[simp] theorem State.withCmu_lrx (s : State) (x : Cmu) : (s.withCmu x).lrx = s.lrx := rfl
@[simp] theorem State.withCmu_cmu (s : State) (x : Cmu) : (s.withCmu x).cmu = x := rfl
@[simp] theorem State.withCmu_cal (s : State) (x : Cmu) : (s.withCmu x).cal = s.cal := rfl
@[simp] theorem State.withCmu_odo (s : State) (x : Cmu) : (s.withCmu x).odo = s.odo := rfl
@[simp] theorem State.withCmu_loc (s : State) (x : Cmu) : (s.withCmu x).loc = s.loc := rfl
@[simp] theorem State.withCmu_mse (s : State) (x : Cmu) : (s.withCmu x).mse = s.mse := rfl
@[simp] theorem State.withCmu_exd (s : State) (x : Cmu) : (s.withCmu x).exd = s.exd := rfl
@[simp] theorem State.withCmu_ext (s : State) (x : Cmu) : (s.withCmu x).ext = s.ext := rfl
@[simp] theorem State.withCmu_stu (s : State) (x : Cmu) : (s.withCmu x).stu = s.stu := rfl
@[simp] theorem State.withCmu_ltx (s : State) (x : Cmu) : (s.withCmu x).ltx = s.ltx := rfl
@[simp] theorem State.withCmu_links (s : State) (x : Cmu) : (s.withCmu x).links = s.links := rfl
@[simp] theorem State.withCmu_outbound (s : State) (x : Cmu) : (s.withCmu x).outbound = s.outbound := rfl
@[simp] theorem State.withCmu_pending (s : State) (x : Cmu) : (s.withCmu x).pending = s.pending := rfl

@[simp] theorem State.withCal_station (s : State) (x : Cal) : (s.withCal x).station = s.station := rfl
@[simp] theorem State.withCal_lineLock (s : State) (x : Cal) : (s.withCal x).lineLock = s.lineLock := rfl
@[simp] theorem State.withCal_lrx (s : State) (x : Cal) : (s.withCal x).lrx = s.lrx := rfl
@[simp] theorem State.withCal_cmu (s : State) (x : Cal) : (s.withCal x).cmu = s.cmu := rfl
@[simp] theorem State.withCal_cal (s : State) (x : Cal) : (s.withCal x).cal = x := rfl
@[simp] theorem State.withCal_odo (s : State) (x : Cal) : (s.withCal x).odo = s.odo := rfl
@[simp] theorem State.withCal_loc (s : State) (x : Cal) : (s.withCal x).loc = s.loc := rfl
@[simp] theorem State.withCal_mse (s : State) (x : Cal) : (s.withCal x).mse = s.mse := rfl
@[simp] theorem State.withCal_exd (s : State) (x : Cal) : (s.withCal x).exd = s.exd := rfl
@[simp] theorem State.withCal_ext (s : State) (x : Cal) : (s.withCal x).ext = s.ext := rfl
@[simp] theorem State.withCal_stu (s : State) (x : Cal) : (s.withCal x).stu = s.stu := rfl
@[simp] theorem State.withCal_ltx (s : State) (x : Cal) : (s.withCal x).ltx = s.ltx := rfl
@[simp] theorem State.withCal_links (s : State) (x : Cal) : (s.withCal x).links = s.links := rfl
@[simp] theorem State.withCal_outbound (s : State) (x : Cal) : (s.withCal x).outbound = s.outbound := rfl
@[simp] theorem State.withCal_pending (s : State) (x : Cal) : (s.withCal x).pending = s.pending := rfl

@[simp] theorem State.withOdo_station (s : State) (x : Odo) : (s.withOdo x).station = s.station := rfl
@[simp] theorem State.withOdo_lineLock (s : State) (x : Odo) : (s.withOdo x).lineLock = s.lineLock := rfl
@[simp] theorem State.withOdo_lrx (s : State) (x : Odo) : (s.withOdo x).lrx = s.lrx := rfl
@[simp] theorem State.withOdo_cmu (s : State) (x : Odo) : (s.withOdo x).cmu = s.cmu := rfl
@[simp] theorem State.withOdo_cal (s : State) (x : Odo) : (s.withOdo x).cal = s.cal := rfl
@[simp] theorem State.withOdo_odo (s : State) (x : Odo) : (s.withOdo x).odo = x := rfl
@[simp] theorem State.withOdo_loc (s : State) (x : Odo) : (s.withOdo x).loc = s.loc := rfl
@[simp] theorem State.withOdo_mse (s : State) (x : Odo) : (s.withOdo x).mse = s.mse := rfl
@[simp] theorem State.withOdo_exd (s : State) (x : Odo) : (s.withOdo x).exd = s.exd := rfl
@[simp] theorem State.withOdo_ext (s : State) (x : Odo) : (s.withOdo x).ext = s.ext := rfl
@[simp] theorem State.withOdo_stu (s : State) (x : Odo) : (s.withOdo x).stu = s.stu := rfl
@[simp] theorem State.withOdo_ltx (s : State) (x : Odo) : (s.withOdo x).ltx = s.ltx := rfl
@[simp] theorem State.withOdo_links (s : State) (x : Odo) : (s.withOdo x).links = s.links := rfl
@[simp] theorem State.withOdo_outbound (s : State) (x : Odo) : (s.withOdo x).outbound = s.outbound := rfl
@[simp] theorem State.withOdo_pending (s : State) (x : Odo) : (s.withOdo x).pending = s.pending := rfl

@[simp] theorem State.withLoc_station (s : State) (x : Loc) : (s.withLoc x).station = s.station := rfl
@[simp] theorem State.withLoc_lineLock (s : State) (x : Loc) : (s.withLoc x).lineLock = s.lineLock := rfl
@[simp] theorem State.withLoc_lrx (s : State) (x : Loc) : (s.withLoc x).lrx = s.lrx := rfl
@[simp] theorem State.withLoc_cmu (s : State) (x : Loc) : (s.withLoc x).cmu = s.cmu := rfl
@[simp] theorem State.withLoc_cal (s : State) (x : Loc) : (s.withLoc x).cal = s.cal := rfl
@[simp] theorem State.withLoc_odo (s : State) (x : Loc) : (s.withLoc x).odo = s.odo := rfl
@[simp] theorem State.withLoc_loc (s : State) (x : Loc) : (s.withLoc x).loc = x := rfl
@[simp] theorem State.withLoc_mse (s : State) (x : Loc) : (s.withLoc x).mse = s.mse := rfl
@[simp] theorem State.withLoc_exd (s : State) (x : Loc) : (s.withLoc x).exd = s.exd := rfl
@[simp] theorem State.withLoc_ext (s : State) (x : Loc) : (s.withLoc x).ext = s.ext := rfl
@[simp] theorem State.withLoc_stu (s : State) (x : Loc) : (s.withLoc x).stu = s.stu := rfl
@[simp] theorem State.withLoc_ltx (s : State) (x : Loc) : (s.withLoc x).ltx = s.ltx := rfl
@[simp] theorem State.withLoc_links (s : State) (x : Loc) : (s.withLoc x).links = s.links := rfl
@[simp] theorem State.withLoc_outbound (s : State) (x : Loc) : (s.withLoc x).outbound = s.outbound := rfl
@[simp] theorem State.withLoc_pending (s : State) (x : Loc) : (s.withLoc x).pending = s.pending := rfl

@[simp] theorem State.withMse_station (s : State) (x : Mse) : (s.withMse x).station = s.station := rfl
@[simp] theorem State.withMse_lineLock (s : State) (x : Mse) : (s.withMse x).lineLock = s.lineLock := rfl
@[simp] theorem State.withMse_lrx (s : State) (x : Mse) : (s.withMse x).lrx = s.lrx := rfl
@[simp] theorem State.withMse_cmu (s : State) (x : Mse) : (s.withMse x).cmu = s.cmu := rfl
@[simp] theorem State.withMse_cal (s : State) (x : Mse) : (s.withMse x).cal = s.cal := rfl
@[simp] theorem State.withMse_odo (s : State) (x : Mse) : (s.withMse x).odo = s.odo := rfl
@[simp] theorem State.withMse_loc (s : State) (x : Mse) : (s.withMse x).loc = s.loc := rfl
@[simp] theorem State.withMse_mse (s : State) (x : Mse) : (s.withMse x).mse = x := rfl
@[simp] theorem State.withMse_exd (s : State) (x : Mse) : (s.withMse x).exd = s.exd := rfl
@[simp] theorem State.withMse_ext (s : State) (x : Mse) : (s.withMse x).ext = s.ext := rfl
@[simp] theorem State.withMse_stu (s : State) (x : Mse) : (s.withMse x).stu = s.stu := rfl
@[simp] theorem State.withMse_ltx (s : State) (x : Mse) : (s.withMse x).ltx = s.ltx := rfl
@[simp] theorem State.withMse_links (s : State) (x : Mse) : (s.withMse x).links = s.links := rfl
@[simp] theorem State.withMse_outbound (s : State) (x : Mse) : (s.withMse x).outbound = s.outbound := rfl
@[simp] theorem State.withMse_pending (s : State) (x : Mse) : (s.withMse x).pending = s.pending := rfl

@[simp] theorem State.withExd_station (s : State) (x : Exd) : (s.withExd x).station = s.station := rfl
@[simp] theorem State.withExd_lineLock (s : State) (x : Exd) : (s.withExd x).lineLock = s.lineLock := rfl
@[simp] theorem State.withExd_lrx (s : State) (x : Exd) : (s.withExd x).lrx = s.lrx := rfl
@[simp] theorem State.withExd_cmu (s : State) (x : Exd) : (s.withExd x).cmu = s.cmu := rfl
@[simp] theorem State.withExd_cal (s : State) (x : Exd) : (s.withExd x).cal = s.cal := rfl
@[simp] theorem State.withExd_odo (s : State) (x : Exd) : (s.withExd x).odo = s.odo := rfl
@[simp] theorem State.withExd_loc (s : State) (x : Exd) : (s.withExd x).loc = s.loc := rfl
@[simp] theorem State.withExd_mse (s : State) (x : Exd) : (s.withExd x).mse = s.mse := rfl
@[simp] theorem State.withExd_exd (s : State) (x : Exd) : (s.withExd x).exd = x := rfl
@[simp] theorem State.withExd_ext (s : State) (x : Exd) : (s.withExd x).ext = s.ext := rfl
@[simp] theorem State.withExd_stu (s : State) (x : Exd) : (s.withExd x).stu = s.stu := rfl
@[simp] theorem State.withExd_ltx (s : State) (x : Exd) : (s.withExd x).ltx = s.ltx := rfl
@[simp] theorem State.withExd_links (s : State) (x : Exd) : (s.withExd x).links = s.links := rfl
@[simp] theorem State.withExd_outbound (s : State) (x : Exd) : (s.withExd x).outbound = s.outbound := rfl
@[simp] theorem State.withExd_pending (s : State) (x : Exd) : (s.withExd x).pending = s.pending := rfl

@[simp] theorem State.withExt_station (s : State) (x : Ext) : (s.withExt x).station = s.station := rfl
@[simp] theorem State.withExt_lineLock (s : State) (x : Ext) : (s.withExt x).lineLock = s.lineLock := rfl
@[simp] theorem State.withExt_lrx (s : State) (x : Ext) : (s.withExt x).lrx = s.lrx := rfl
@[simp] theorem State.withExt_cmu (s : State) (x : Ext) : (s.withExt x).cmu = s.cmu := rfl
@[simp] theorem State.withExt_cal (s : State) (x : Ext) : (s.withExt x).cal = s.cal := rfl
@[simp] theorem State.withExt_odo (s : State) (x : Ext) : (s.withExt x).odo = s.odo := rfl
@[simp] theorem State.withExt_loc (s : State) (x : Ext) : (s.withExt x).loc = s.loc := rfl
@[simp] theorem State.withExt_mse (s : State) (x : Ext) : (s.withExt x).mse = s.mse := rfl
@[simp] theorem State.withExt_exd (s : State) (x : Ext) : (s.withExt x).exd = s.exd := rfl
@[simp] theorem State.withExt_ext (s : State) (x : Ext) : (s.withExt x).ext = x := rfl
@[simp] theorem State.withExt_stu (s : State) (x : Ext) : (s.withExt x).stu = s.stu := rfl
@[simp] theorem State.withExt_ltx (s : State) (x : Ext) : (s.withExt x).ltx = s.ltx := rfl
@[simp] theorem State.withExt_links (s : State) (x : Ext) : (s.withExt x).links = s.links := rfl
@[simp] theorem State.withExt_outbound (s : State) (x : Ext) : (s.withExt x).outbound = s.outbound := rfl
@[simp] theorem State.withExt_pending (s : State) (x : Ext) : (s.withExt x).pending = s.pending := rfl

@[simp] theorem State.withStu_station (s : State) (x : Stu) : (s.withStu x).station = s.station := rfl
@[simp] theorem State.withStu_lineLock (s : State) (x : Stu) : (s.withStu x).lineLock = s.lineLock := rfl
@[simp] theorem State.withStu_lrx (s : State) (x : Stu) : (s.withStu x).lrx = s.lrx := rfl
@[simp] theorem State.withStu_cmu (s : State) (x : Stu) : (s.withStu x).cmu = s.cmu := rfl
@[simp] theorem State.withStu_cal (s : State) (x : Stu) : (s.withStu x).cal = s.cal := rfl
@[simp] theorem State.withStu_odo (s : State) (x : Stu) : (s.withStu x).odo = s.odo := rfl
@[simp] theorem State.withStu_loc (s : State) (x : Stu) : (s.withStu x).loc = s.loc := rfl
@[simp] theorem State.withStu_mse (s : State) (x : Stu) : (s.withStu x).mse = s.mse := rfl
@[simp] theorem State.withStu_exd (s : State) (x : Stu) : (s.withStu x).exd = s.exd := rfl
@[simp] theorem State.withStu_ext (s : State) (x : Stu) : (s.withStu x).ext = s.ext := rfl
@[simp] theorem State.withStu_stu (s : State) (x : Stu) : (s.withStu x).stu = x := rfl
@[simp] theorem State.withStu_ltx (s : State) (x : Stu) : (s.withStu x).ltx = s.ltx := rfl
@[simp] theorem State.withStu_links (s : State) (x : Stu) : (s.withStu x).links = s.links := rfl
@[simp] theorem State.withStu_outbound (s : State) (x : Stu) : (s.withStu x).outbound = s.outbound := rfl
@[simp] theorem State.withStu_pending (s : State) (x : Stu) : (s.withStu x).pending = s.pending := rfl

@[simp] theorem State.withLtx_station (s : State) (x : Ltx) : (s.withLtx x).station = s.station := rfl
@[simp] theorem State.withLtx_lineLock (s : State) (x : Ltx) : (s.withLtx x).lineLock = s.lineLock := rfl
@[simp] theorem State.withLtx_lrx (s : State) (x : Ltx) : (s.withLtx x).lrx = s.lrx := rfl
@[simp] theorem State.withLtx_cmu (s : State) (x : Ltx) : (s.withLtx x).cmu = s.cmu := rfl
@[simp] theorem State.withLtx_cal (s : State) (x : Ltx) : (s.withLtx x).cal = s.cal := rfl
@[simp] theorem State.withLtx_odo (s : State) (x : Ltx) : (s.withLtx x).odo = s.odo := rfl
@[simp] theorem State.withLtx_loc (s : State) (x : Ltx) : (s.withLtx x).loc = s.loc := rfl
@[simp] theorem State.withLtx_mse (s : State) (x : Ltx) : (s.withLtx x).mse = s.mse := rfl
@[simp] theorem State.withLtx_exd (s : State) (x : Ltx) : (s.withLtx x).exd = s.exd := rfl
@[simp] theorem State.withLtx_ext (s : State) (x : Ltx) : (s.withLtx x).ext = s.ext := rfl
@[simp] theorem State.withLtx_stu (s : State) (x : Ltx) : (s.withLtx x).stu = s.stu := rfl
@[simp] theorem State.withLtx_ltx (s : State) (x : Ltx) : (s.withLtx x).ltx = x := rfl
@[simp] theorem State.withLtx_links (s : State) (x : Ltx) : (s.withLtx x).links = s.links := rfl
@[simp] theorem State.withLtx_outbound (s : State) (x : Ltx) : (s.withLtx x).outbound = s.outbound := rfl
@[simp] theorem State.withLtx_pending (s : State) (x : Ltx) : (s.withLtx x).pending = s.pending := rfl

@[simp] theorem State.withLinks_station (s : State) (x : Links) : (s.withLinks x).station = s.station := rfl
@[simp] theorem State.withLinks_lineLock (s : State) (x : Links) : (s.withLinks x).lineLock = s.lineLock := rfl
@[simp] theorem State.withLinks_lrx (s : State) (x : Links) : (s.withLinks x).lrx = s.lrx := rfl
@[simp] theorem State.withLinks_cmu (s : State) (x : Links) : (s.withLinks x).cmu = s.cmu := rfl
@[simp] theorem State.withLinks_cal (s : State) (x : Links) : (s.withLinks x).cal = s.cal := rfl
@[simp] theorem State.withLinks_odo (s : State) (x : Links) : (s.withLinks x).odo = s.odo := rfl
@[simp] theorem State.withLinks_loc (s : State) (x : Links) : (s.withLinks x).loc = s.loc := rfl
@[simp] theorem State.withLinks_mse (s : State) (x : Links) : (s.withLinks x).mse = s.mse := rfl
@[simp] theorem State.withLinks_exd (s : State) (x : Links) : (s.withLinks x).exd = s.exd := rfl
@[simp] theorem State.withLinks_ext (s : State) (x : Links) : (s.withLinks x).ext = s.ext := rfl
@[simp] theorem State.withLinks_stu (s : State) (x : Links) : (s.withLinks x).stu = s.stu := rfl
@[simp] theorem State.withLinks_ltx (s : State) (x : Links) : (s.withLinks x).ltx = s.ltx := rfl
@[simp] theorem State.withLinks_links (s : State) (x : Links) : (s.withLinks x).links = x := rfl
@[simp] theorem State.withLinks_outbound (s : State) (x : Links) : (s.withLinks x).outbound = s.outbound := rfl
@[simp] theorem State.withLinks_pending (s : State) (x : Links) : (s.withLinks x).pending = s.pending := rfl

@[simp] theorem State.withOutbound_station (s : State) (x : List LaneSymbol) : (s.withOutbound x).station = s.station := rfl
@[simp] theorem State.withOutbound_lineLock (s : State) (x : List LaneSymbol) : (s.withOutbound x).lineLock = s.lineLock := rfl
@[simp] theorem State.withOutbound_lrx (s : State) (x : List LaneSymbol) : (s.withOutbound x).lrx = s.lrx := rfl
@[simp] theorem State.withOutbound_cmu (s : State) (x : List LaneSymbol) : (s.withOutbound x).cmu = s.cmu := rfl
@[simp] theorem State.withOutbound_cal (s : State) (x : List LaneSymbol) : (s.withOutbound x).cal = s.cal := rfl
@[simp] theorem State.withOutbound_odo (s : State) (x : List LaneSymbol) : (s.withOutbound x).odo = s.odo := rfl
@[simp] theorem State.withOutbound_loc (s : State) (x : List LaneSymbol) : (s.withOutbound x).loc = s.loc := rfl
@[simp] theorem State.withOutbound_mse (s : State) (x : List LaneSymbol) : (s.withOutbound x).mse = s.mse := rfl
@[simp] theorem State.withOutbound_exd (s : State) (x : List LaneSymbol) : (s.withOutbound x).exd = s.exd := rfl
@[simp] theorem State.withOutbound_ext (s : State) (x : List LaneSymbol) : (s.withOutbound x).ext = s.ext := rfl
@[simp] theorem State.withOutbound_stu (s : State) (x : List LaneSymbol) : (s.withOutbound x).stu = s.stu := rfl
@[simp] theorem State.withOutbound_ltx (s : State) (x : List LaneSymbol) : (s.withOutbound x).ltx = s.ltx := rfl
@[simp] theorem State.withOutbound_links (s : State) (x : List LaneSymbol) : (s.withOutbound x).links = s.links := rfl
@[simp] theorem State.withOutbound_outbound (s : State) (x : List LaneSymbol) : (s.withOutbound x).outbound = x := rfl
@[simp] theorem State.withOutbound_pending (s : State) (x : List LaneSymbol) : (s.withOutbound x).pending = s.pending := rfl

end Sys2Proof.Machine
end

