-- ==== Sys2Proof/Laws/Commands.lean ====
section
/-! SUPPORT. What CMU does with the head entry of its queue: the code, tag and arguments of an entry, when it is taken, and
everything an execution can do. -/

namespace Sys2Proof.Machine

@[simp] theorem commandEntry_source (a : Octet) (b : Bool) (c : Octet) (t : Half) (xs : List Octet) :
    (commandEntry a b c t xs).source = a := rfl

@[simp] theorem commandEntry_broadcast (a : Octet) (b : Bool) (c : Octet) (t : Half) (xs : List Octet) :
    (commandEntry a b c t xs).broadcast = b := rfl

@[simp] theorem commandEntry_whole (a : Octet) (b : Bool) (c : Octet) (t : Half) (xs : List Octet) :
    (commandEntry a b c t xs).whole = true := by
  simp [CommandEntry.whole, commandEntry, commandPayload]

@[simp] theorem commandEntry_code (a : Octet) (b : Bool) (c : Octet) (t : Half) (xs : List Octet) :
    (commandEntry a b c t xs).code = c := rfl

@[simp] theorem commandEntry_tag (a : Octet) (b : Bool) (c : Octet) (t : Half) (xs : List Octet) :
    (commandEntry a b c t xs).tag = t := by
  have h : field (octetsOf 2 (t.toNat : Int) ++ xs) 0 2 = t.toNat := field_octetsOf 2 t.toNat xs t.isLt
  simp only [CommandEntry.tag, commandEntry, commandPayload, field_cons_succ, h]
  simp

@[simp] theorem commandEntry_args (a : Octet) (b : Bool) (c : Octet) (t : Half) (xs : List Octet) :
    (commandEntry a b c t xs).args = xs := by
  simp [CommandEntry.args, commandEntry, commandPayload]

/-- R25: a head entry that can be taken, and is carried out as this row, is taken. -/
theorem State.CanTake.headCommand {s : State} {e : CommandEntry} {rest : List CommandEntry} (h : s.CanTake e rest)
    {row : Instr} (hr : e.row = row) : s.headCommand row = some e := by
  have hroom : e.broadcast = true ∨ s.ltx.responseRoom = true := by
    simpa [Ltx.responseRoom, Config.responseCapacity] using h.room
  simp [State.headCommand, h.head, h.noReset, hroom, hr]

/-- R25: the state once the head entry has been removed. -/
theorem State.CanTake.dropCommand {s : State} {e : CommandEntry} {rest : List CommandEntry} (h : s.CanTake e rest) :
    s.dropCommand = s.taken rest := by
  simp [State.dropCommand, State.taken, State.withLrx, h.head]

/-- R27: the answer to a command addressed to the part. -/
theorem answer_addressed (s : State) (a c : Octet) (t : Half) (xs : List Octet) (r : Reply) :
    s.answer (commandEntry a false c t xs) r = s.responded a c t r.status r.results := by
  simp [State.answer, State.responded, State.withLtx, Ltx.placeResponse, CommandEntry.response]

/-- R26: a broadcast command that is refused is counted, and one that is executed leaves nothing. -/
theorem answer_broadcast (s : State) (a c : Octet) (t : Half) (xs : List Octet) (r : Reply) :
    s.answer (commandEntry a true c t xs) r = if r.status = .ok then s else s.discarded := by
  simp only [State.answer, commandEntry_broadcast, if_true]
  rfl

/-- R25 to R27: all that the execution of a command can do: the head entry stays, or it is judged and answered. -/
theorem runCommand_cases (s : State) (row : Instr) (allowed : RunState → Bool)
    (act : CommandEntry → State → State × Reply) :
    (s.headCommand row = none ∧ s.runCommand row allowed act = s) ∨
      ∃ e, s.headCommand row = some e ∧
        s.runCommand row allowed act =
          (s.dropCommand.judgeCommand e allowed .refuse act).1.answer e
            (s.dropCommand.judgeCommand e allowed .refuse act).2 := by
  unfold State.runCommand
  cases s.headCommand row with
  | none => exact .inl ⟨rfl, rfl⟩
  | some e => exact .inr ⟨e, rfl, rfl⟩

/-- R26, cases 4 to 7, R27: the execution of a command whose length and run state are right. -/
theorem State.CanTake.run {s : State} {a : Octet} {b : Bool} {c : Octet} {t : Half} {xs : List Octet}
    {rest : List CommandEntry} (h : s.CanTake (commandEntry a b c t xs) rest) {row : Instr} {n : Nat}
    (hr : (commandEntry a b c t xs).row = row) (hn : commandCode? c = some (row, n)) (hl : xs.length = n)
    {allowed : RunState → Bool} (ha : allowed s.cmu.runState = true) (act : CommandEntry → State → State × Reply) :
    s.runCommand row allowed act =
      (act (commandEntry a b c t xs) (s.taken rest)).1.answer (commandEntry a b c t xs)
        (act (commandEntry a b c t xs) (s.taken rest)).2 := by
  have harg : argumentOctets (commandEntry a b c t xs) = n := by simp [argumentOctets, hn]
  have hs : (s.taken rest).cmu.runState = s.cmu.runState := rfl
  simp [State.runCommand, h.headCommand hr, h.dropCommand, State.judgeCommand, harg, hl, hs, ha]

/-- R26: the row of an entry whose code names a command, when it is not a broadcast of one that is not broadcast. -/
theorem commandEntry_row {a : Octet} {b : Bool} {c : Octet} {t : Half} {xs : List Octet} {row : Instr} {n : Nat}
    (hn : commandCode? c = some (row, n)) (hb : b = true → broadcastExecuted row = true) :
    (commandEntry a b c t xs).row = row := by
  cases b <;> simp_all [CommandEntry.row]

end Sys2Proof.Machine
end

