-- ==== Sys2Proof/Laws/Events.lean ====
section
/-! SUPPORT. What a step can be, how a property is carried through the execution of a host command, and when a stage keeps
what reaches it (R24, R85, R105). -/

namespace Sys2Proof.Machine

/-- A step idles on an empty queue, and else carries out the command in front. -/
theorem step_cases {s t : State} (h : step s = .next t) :
    (s.pending = [] ∧ t = s) ∨ ∃ c rest, s.pending = c :: rest ∧ exec c { s with pending := rest } = .next t := by
  unfold step at h
  split at h
  · next hp => exact .inl ⟨hp, by cases h; rfl⟩
  · next c rest hp => exact .inr ⟨c, rest, hp, h⟩

/-- R25 to R27: a property that the taking of an entry, the owning block and the answer keep is kept by the execution. -/
theorem runCommand_keeps {P : State → Prop} {s : State} {row : Instr} {allowed : RunState → Bool}
    {act : CommandEntry → State → State × Reply} (hs : P s) (hdrop : P s → P s.dropCommand)
    (hact : ∀ e t, P t → P (act e t).1) (hanswer : ∀ t e r, P t → P (t.answer e r)) :
    P (s.runCommand row allowed act) := by
  rcases runCommand_cases s row allowed act with ⟨_, h⟩ | ⟨e, _, h⟩
  · rw [h]
    exact hs
  · rw [h]
    apply hanswer
    unfold State.judgeCommand
    split
    · exact hdrop hs
    · split
      · exact hact e _ (hdrop hs)
      · exact hdrop hs

/-- R24: a stage keeps an item exactly in MEASURING and under the run number in force. -/
theorem keeps_iff (s : State) (run : BitVec 8) :
    s.keeps run = true ↔ s.cmu.runState = .measuring ∧ run = s.cmu.runNumber := by
  simp [State.keeps, State.measuring]

/-- R85: LOC takes the head item exactly when nothing waits between LOC and MSE. -/
theorem locItem_eq_some {s : State} {x : OdoItem} :
    s.locItem = some x ↔ s.links.locToMse = none ∧ ∃ rest, s.links.odoToLoc = x :: rest := by
  unfold State.locItem
  split
  · next h =>
    cases hl : s.links.odoToLoc <;> simp [h]
  · next h => simp [h]

/-- R105: MSE takes what LOC handed on exactly when no row waits at EXD or STU. -/
theorem mseItem_eq_some {s : State} {x : MseItem} :
    s.mseItem = some x ↔ s.links.rowsTaken = true ∧ s.links.locToMse = some x := by
  unfold State.mseItem
  split <;> simp_all

/-- R27: an answer changes the response queue, or counts a refused broadcast. -/
theorem answer_cases (s : State) (e : CommandEntry) (r : Reply) :
    (e.broadcast = false ∧ s.answer e r = s.withLtx (s.ltx.placeResponse (e.response r))) ∨
      (e.broadcast = true ∧ r.status = .ok ∧ s.answer e r = s) ∨
      (e.broadcast = true ∧ r.status ≠ .ok ∧ s.answer e r = s.countDiscarded) := by
  unfold State.answer
  cases h : e.broadcast
  · exact .inl ⟨rfl, by simp⟩
  · by_cases hr : r.status = .ok
    · exact .inr (.inl ⟨rfl, hr, by simp [hr]⟩)
    · exact .inr (.inr ⟨rfl, hr, by simp [hr]⟩)

end Sys2Proof.Machine
end

