-- ==== Sys2Proof/Laws/PassThrough.lean ====
section
/-! SUPPORT. What the notices of a frame passed on can touch: LTX and the outbound lane, and nothing else (R189 to R191). -/

namespace Sys2Proof.Machine

/-- R190, R191: a frame start notice touches LTX and the outbound lane only. -/
theorem frameStartNotice_frame (s : State) (head : List Octet) :
    ∃ l o, s.frameStartNotice head = { s with ltx := l, outbound := o } := by
  unfold State.frameStartNotice
  split <;> exact ⟨_, _, rfl⟩

/-- R190, R191: an octet handed over touches LTX and the outbound lane only. -/
theorem handOctet_frame (s : State) (b : Octet) : ∃ l o, s.handOctet b = { s with ltx := l, outbound := o } := by
  unfold State.handOctet
  split <;> exact ⟨_, _, rfl⟩

/-- R190, R191: an end notice touches LTX and the outbound lane only. -/
theorem endNotice_frame (s : State) : ∃ l o, s.endNotice = { s with ltx := l, outbound := o } := by
  unfold State.endNotice
  split <;> exact ⟨_, _, rfl⟩

/-- R190, R191: a drop notice touches LTX and the outbound lane only. -/
theorem dropNotice_frame (s : State) : ∃ l o, s.dropNotice = { s with ltx := l, outbound := o } := by
  unfold State.dropNotice
  split <;> exact ⟨_, _, rfl⟩

/-- R191: what becomes of the store buffer at an end notice. -/
theorem queueStored_cases (l : Ltx) :
    (l.store = none ∧ l.queueStored = l) ∨
      ∃ f, l.store = some f ∧
        ((l.forward.length < 4 ∧ l.queueStored = { l with forward := l.forward ++ [f], store := none }) ∨
          (4 ≤ l.forward.length ∧
            l.queueStored = { l with forwardsDropped := countUp 65535 l.forwardsDropped, store := none })) := by
  unfold Ltx.queueStored
  split
  · next h => exact .inl ⟨h, rfl⟩
  · next f h =>
    refine .inr ⟨f, h, ?_⟩
    split
    · next hl => exact .inl ⟨hl, rfl⟩
    · next hl => exact .inr ⟨Nat.le_of_not_lt hl, rfl⟩

/-- R196: an octet written as a one-octet number is itself. -/
theorem octetsOf_one (b : Octet) : octetsOf 1 (b.toNat : Int) = [b] := by
  have h : octetsOf 1 (b.toNat : Int) = [BitVec.ofInt 8 b.toNat] := by simp [octetsOf]
  rw [h]
  congr 1
  apply BitVec.eq_of_toNat_eq
  simp

end Sys2Proof.Machine
end

