-- ==== Sys2Proof/Laws/PerInstr.lean ====
section
/-! SUPPORT. Which commands CMU can take from its queue (R26), stated for each command of the table. -/

namespace Sys2Proof.Machine

/-- R26: the rows that CMU carries out when it takes an entry from the command queue. -/
def isHostCommand (i : Instr) : Bool :=
  isPlainCommand i || i == .zero || i == .commandDiscarded || i == .unknownCommand

/-- R26, R196: the row a code names is a host command's. -/
theorem isHostCommand_of_code {code : Octet} {i : Instr} {n : Nat} (h : commandCode? code = some (i, n)) :
    isHostCommand i = true := by
  unfold commandCode? at h
  split at h
  all_goals first
    | (simp only [Option.some.injEq, Prod.mk.injEq] at h; obtain ⟨rfl, rfl⟩ := h; rfl)
    | exact absurd h (by simp)

/-- R26: every entry of the command queue is carried out as a host command's row. -/
theorem isHostCommand_row (e : CommandEntry) : isHostCommand e.row = true := by
  unfold CommandEntry.row
  split
  · rfl
  · split
    · next i n h =>
      split
      · rfl
      · exact isHostCommand_of_code h
    · split <;> rfl

end Sys2Proof.Machine

namespace Sys2Proof.Laws

/-- R26: an entry of the command queue is carried out as this row only if the row is a host command's. -/
def CommandRow.Statement (i : Instr) : Prop := ∀ e : Machine.CommandEntry, e.row = i → Machine.isHostCommand i = true

theorem CommandRow.dataOctet (b : Octet) : CommandRow.Statement (.dataOctet b) :=
  fun e h => h ▸ Machine.isHostCommand_row e
theorem CommandRow.idle : CommandRow.Statement .idle := fun e h => h ▸ Machine.isHostCommand_row e
theorem CommandRow.start : CommandRow.Statement .start := fun e h => h ▸ Machine.isHostCommand_row e
theorem CommandRow.endFrame : CommandRow.Statement .endFrame := fun e h => h ▸ Machine.isHostCommand_row e
theorem CommandRow.abort : CommandRow.Statement .abort := fun e h => h ▸ Machine.isHostCommand_row e
theorem CommandRow.lossOfLock : CommandRow.Statement .lossOfLock := fun e h => h ▸ Machine.isHostCommand_row e
theorem CommandRow.lockAcquired : CommandRow.Statement .lockAcquired := fun e h => h ▸ Machine.isHostCommand_row e
theorem CommandRow.powerOnReset (straps : BitVec 6) : CommandRow.Statement (.powerOnReset straps) :=
  fun e h => h ▸ Machine.isHostCommand_row e
theorem CommandRow.hold : CommandRow.Statement .hold := fun e h => h ▸ Machine.isHostCommand_row e
theorem CommandRow.go : CommandRow.Statement .go := fun e h => h ▸ Machine.isHostCommand_row e
theorem CommandRow.commandDiscarded : CommandRow.Statement .commandDiscarded :=
  fun e h => h ▸ Machine.isHostCommand_row e
theorem CommandRow.unknownCommand : CommandRow.Statement .unknownCommand := fun e h => h ▸ Machine.isHostCommand_row e
theorem CommandRow.identify : CommandRow.Statement .identify := fun e h => h ▸ Machine.isHostCommand_row e
theorem CommandRow.readStatus : CommandRow.Statement .readStatus := fun e h => h ▸ Machine.isHostCommand_row e
theorem CommandRow.resetWarm : CommandRow.Statement .resetWarm := fun e h => h ▸ Machine.isHostCommand_row e
theorem CommandRow.resetCold : CommandRow.Statement .resetCold := fun e h => h ▸ Machine.isHostCommand_row e
theorem CommandRow.startCommand : CommandRow.Statement .startCommand := fun e h => h ▸ Machine.isHostCommand_row e
theorem CommandRow.stop : CommandRow.Statement .stop := fun e h => h ▸ Machine.isHostCommand_row e
theorem CommandRow.suspend : CommandRow.Statement .suspend := fun e h => h ▸ Machine.isHostCommand_row e
theorem CommandRow.resume : CommandRow.Statement .resume := fun e h => h ▸ Machine.isHostCommand_row e
theorem CommandRow.setPosition : CommandRow.Statement .setPosition := fun e h => h ▸ Machine.isHostCommand_row e
theorem CommandRow.setConfig : CommandRow.Statement .setConfig := fun e h => h ▸ Machine.isHostCommand_row e
theorem CommandRow.readConfig : CommandRow.Statement .readConfig := fun e h => h ▸ Machine.isHostCommand_row e
theorem CommandRow.setStream : CommandRow.Statement .setStream := fun e h => h ▸ Machine.isHostCommand_row e
theorem CommandRow.writeChannel : CommandRow.Statement .writeChannel := fun e h => h ▸ Machine.isHostCommand_row e
theorem CommandRow.readChannel : CommandRow.Statement .readChannel := fun e h => h ▸ Machine.isHostCommand_row e
theorem CommandRow.zero : CommandRow.Statement .zero := fun e h => h ▸ Machine.isHostCommand_row e
theorem CommandRow.writeParameter : CommandRow.Statement .writeParameter := fun e h => h ▸ Machine.isHostCommand_row e
theorem CommandRow.readParameter : CommandRow.Statement .readParameter := fun e h => h ▸ Machine.isHostCommand_row e
theorem CommandRow.writeMeasure : CommandRow.Statement .writeMeasure := fun e h => h ▸ Machine.isHostCommand_row e
theorem CommandRow.readMeasure : CommandRow.Statement .readMeasure := fun e h => h ▸ Machine.isHostCommand_row e
theorem CommandRow.rebase : CommandRow.Statement .rebase := fun e h => h ▸ Machine.isHostCommand_row e
theorem CommandRow.writeLimits : CommandRow.Statement .writeLimits := fun e h => h ▸ Machine.isHostCommand_row e
theorem CommandRow.readLimits : CommandRow.Statement .readLimits := fun e h => h ▸ Machine.isHostCommand_row e
theorem CommandRow.writeMark : CommandRow.Statement .writeMark := fun e h => h ▸ Machine.isHostCommand_row e
theorem CommandRow.deleteMark : CommandRow.Statement .deleteMark := fun e h => h ▸ Machine.isHostCommand_row e
theorem CommandRow.clearMarks : CommandRow.Statement .clearMarks := fun e h => h ▸ Machine.isHostCommand_row e
theorem CommandRow.readMark : CommandRow.Statement .readMark := fun e h => h ▸ Machine.isHostCommand_row e
theorem CommandRow.appendSection : CommandRow.Statement .appendSection := fun e h => h ▸ Machine.isHostCommand_row e
theorem CommandRow.clearSections : CommandRow.Statement .clearSections := fun e h => h ▸ Machine.isHostCommand_row e
theorem CommandRow.readSection : CommandRow.Statement .readSection := fun e h => h ▸ Machine.isHostCommand_row e
theorem CommandRow.writeSlot : CommandRow.Statement .writeSlot := fun e h => h ▸ Machine.isHostCommand_row e
theorem CommandRow.readSlot : CommandRow.Statement .readSlot := fun e h => h ▸ Machine.isHostCommand_row e
theorem CommandRow.freeze : CommandRow.Statement .freeze := fun e h => h ▸ Machine.isHostCommand_row e
theorem CommandRow.thaw : CommandRow.Statement .thaw := fun e h => h ▸ Machine.isHostCommand_row e
theorem CommandRow.resetStats : CommandRow.Statement .resetStats := fun e h => h ▸ Machine.isHostCommand_row e
theorem CommandRow.frameTake : CommandRow.Statement .frameTake := fun e h => h ▸ Machine.isHostCommand_row e
theorem CommandRow.zeroTimeout : CommandRow.Statement .zeroTimeout := fun e h => h ▸ Machine.isHostCommand_row e
theorem CommandRow.zeroResponsePlaced : CommandRow.Statement .zeroResponsePlaced :=
  fun e h => h ▸ Machine.isHostCommand_row e
theorem CommandRow.frameEvent : CommandRow.Statement .frameEvent := fun e h => h ▸ Machine.isHostCommand_row e
theorem CommandRow.silenceExpiry : CommandRow.Statement .silenceExpiry := fun e h => h ▸ Machine.isHostCommand_row e
theorem CommandRow.reverseLimitRequest : CommandRow.Statement .reverseLimitRequest :=
  fun e h => h ▸ Machine.isHostCommand_row e
theorem CommandRow.markHandoff : CommandRow.Statement .markHandoff := fun e h => h ▸ Machine.isHostCommand_row e
theorem CommandRow.locSample : CommandRow.Statement .locSample := fun e h => h ▸ Machine.isHostCommand_row e
theorem CommandRow.locGapNotice : CommandRow.Statement .locGapNotice := fun e h => h ▸ Machine.isHostCommand_row e
theorem CommandRow.sampleEvent : CommandRow.Statement .sampleEvent := fun e h => h ▸ Machine.isHostCommand_row e
theorem CommandRow.gapEvent : CommandRow.Statement .gapEvent := fun e h => h ▸ Machine.isHostCommand_row e
theorem CommandRow.rowEvent : CommandRow.Statement .rowEvent := fun e h => h ▸ Machine.isHostCommand_row e
theorem CommandRow.exdGapNotice : CommandRow.Statement .exdGapNotice := fun e h => h ▸ Machine.isHostCommand_row e
theorem CommandRow.stuRowEvent : CommandRow.Statement .stuRowEvent := fun e h => h ▸ Machine.isHostCommand_row e
theorem CommandRow.stuGapNotice : CommandRow.Statement .stuGapNotice := fun e h => h ▸ Machine.isHostCommand_row e
theorem CommandRow.ltxRow : CommandRow.Statement .ltxRow := fun e h => h ▸ Machine.isHostCommand_row e
theorem CommandRow.ltxGapNotice : CommandRow.Statement .ltxGapNotice := fun e h => h ▸ Machine.isHostCommand_row e
theorem CommandRow.arbiterChoice : CommandRow.Statement .arbiterChoice := fun e h => h ▸ Machine.isHostCommand_row e
theorem CommandRow.transmissionEnd : CommandRow.Statement .transmissionEnd := fun e h => h ▸ Machine.isHostCommand_row e

end Sys2Proof.Laws
end

