-- ==== Sys2Proof/Laws/Queues.lean ====
section
/-! SUPPORT. Counts that stop at a limit, and everything that an offer to one of LTX's queues, or the closing of a row block,
can do (R188, R193, R194). -/

namespace Sys2Proof.Machine

/-- R22: a count that stops at its limit stays within it. -/
theorem countUp_le (limit n : Nat) : countUp limit n ≤ limit := Nat.min_le_right _ _

/-- R188: a location record joins with the lost count, which becomes 0, or is dropped and counted. -/
theorem offerLocation_cases (l : Ltx) (r : LocationRecord) :
    (l.locations.length < 8 ∧ l.offerLocation r =
      { l with locations := l.locations ++ [{ r with lost := l.locationLost }], locationLost := 0 }) ∨
      (8 ≤ l.locations.length ∧ l.offerLocation r = { l with locationLost := countUp 255 l.locationLost }) := by
  unfold Ltx.offerLocation
  split
  · exact .inl ⟨‹_›, rfl⟩
  · exact .inr ⟨Nat.le_of_not_lt ‹_›, rfl⟩

/-- R188: a segment record joins with the lost count, which becomes 0, or is dropped and counted. -/
theorem offerSegment_cases (l : Ltx) (r : SegmentRecord) :
    (l.segments.length < 4 ∧ l.offerSegment r =
      { l with segments := l.segments ++ [{ r with lostBefore := l.segmentLost }], segmentLost := 0 }) ∨
      (4 ≤ l.segments.length ∧ l.offerSegment r = { l with segmentLost := countUp 255 l.segmentLost }) := by
  unfold Ltx.offerSegment
  split
  · exact .inl ⟨‹_›, rfl⟩
  · exact .inr ⟨Nat.le_of_not_lt ‹_›, rfl⟩

/-- R193, R194: a buffer that is not OPEN stays as it is; an OPEN one becomes PENDING and joins the closing order. -/
theorem closeBuffer_cases (l : Ltx) (i : Fin 2) :
    ((∀ b, l.buffers[i] ≠ .filling b) ∧ l.closeBuffer i = l) ∨
      ∃ b, l.buffers[i] = .filling b ∧
        l.closeBuffer i = { l with buffers := l.buffers.set i (.pending b), closedOrder := l.closedOrder ++ [i] } := by
  unfold Ltx.closeBuffer
  split
  · exact .inr ⟨_, ‹_›, rfl⟩
  · rename_i h
    exact .inl ⟨fun b hb => h b hb, rfl⟩

/-- R194: closing the row block changes the buffers and the closing order only. -/
theorem closeBlock_frame (l : Ltx) :
    l.closeBlock = { l with buffers := l.closeBlock.buffers, closedOrder := l.closeBlock.closedOrder } := by
  unfold Ltx.closeBlock
  rcases closeBuffer_cases l 0 with ⟨_, h0⟩ | ⟨b, _, h0⟩
  · rw [h0]
    rcases closeBuffer_cases l 1 with ⟨_, h1⟩ | ⟨b, _, h1⟩ <;> rw [h1]
  · rcases closeBuffer_cases (l.closeBuffer 0) 1 with ⟨_, h1⟩ | ⟨c, _, h1⟩ <;> rw [h1, h0]

end Sys2Proof.Machine
end

