-- ==== Sys2Proof/Laws/Tables.lean ====
section
/-! SUPPORT. The tables LOC keeps and the levels EXD picks: the entry of every id after a mark command, the order and the
length the commands leave, and the level that highestLevel answers. -/

namespace Sys2Proof.Machine

/-! ### The mark table (R90 to R92) -/

/-- An id below every key has no entry. -/
theorem markEntry?_of_below {t : List (Nat × MarkEntry)} {q : Nat} (h : ∀ p ∈ t, q < p.1) : markEntry? t q = none := by
  induction t with
  | nil => rfl
  | cons a t ih =>
    have ha := h a (List.mem_cons_self ..)
    simp only [markEntry?]
    rw [if_neg (by omega)]
    exact ih fun p hp => h p (List.mem_cons_of_mem _ hp)

/-- R91: the entry of every id after a write. -/
theorem markEntry?_markInsert {t : List (Nat × MarkEntry)} (q : Nat) (e : MarkEntry) (p : Nat) :
    markEntry? (markInsert t q e) p = if p = q then some e else markEntry? t p := by
  induction t with
  | nil =>
    by_cases h : p = q
    · simp [markInsert, markEntry?, h]
    · simp only [markInsert, markEntry?]
      rw [if_neg (Ne.symm h), if_neg h]
  | cons a t ih =>
    simp only [markInsert]
    by_cases h : p = q
    · subst h
      split
      · simp [markEntry?]
      · split
        · simp [markEntry?]
        · rename_i h1 h2
          simp only [if_true] at ih
          simp only [markEntry?, ih, if_true]
          rw [if_neg (Ne.symm h2)]
    · simp only [h, if_false] at ih ⊢
      split
      · simp only [markEntry?]
        rw [if_neg (Ne.symm h)]
      · split
        · rename_i h1 h2
          simp only [markEntry?]
          rw [if_neg (Ne.symm h), if_neg (h2 ▸ Ne.symm h)]
        · simp only [markEntry?, ih]

/-- R91: what a write adds to the number of entries. -/
theorem length_markInsert {t : List (Nat × MarkEntry)} (h : t.Pairwise fun a b => a.1 < b.1) (q : Nat) (e : MarkEntry) :
    (markInsert t q e).length = t.length + if markEntry? t q = none then 1 else 0 := by
  induction t with
  | nil => simp [markInsert, markEntry?]
  | cons a t ih =>
    have hr := ih (List.Pairwise.of_cons h)
    have hl := (List.pairwise_cons.1 h).1
    simp only [markInsert]
    split
    · rename_i h1
      rw [if_pos]
      · simp
      · apply markEntry?_of_below
        intro p hp
        rcases List.mem_cons.1 hp with rfl | hp
        · exact h1
        · exact lt_trans h1 (hl p hp)
    · split
      · simp [markEntry?, *]
      · have hz : markEntry? (a :: t) q = markEntry? t q := by
          simp only [markEntry?]
          rw [if_neg (by omega)]
        simp only [List.length_cons, hr, hz]
        omega

/-- A key of the table after a write is the id written or a key from before. -/
theorem key_of_mem_markInsert {t : List (Nat × MarkEntry)} {q : Nat} {e : MarkEntry} {p : Nat × MarkEntry}
    (h : p ∈ markInsert t q e) : p = (q, e) ∨ p ∈ t := by
  induction t with
  | nil => simpa [markInsert] using h
  | cons a t ih =>
    simp only [markInsert] at h
    split at h
    · simpa using h
    · split at h
      · rcases List.mem_cons.1 h with h | h
        · exact .inl h
        · exact .inr (List.mem_cons_of_mem _ h)
      · rcases List.mem_cons.1 h with h | h
        · exact .inr (by simp [h])
        · rcases ih h with h | h
          · exact .inl h
          · exact .inr (List.mem_cons_of_mem _ h)

/-- R90, R91: a write keeps the table in ascending order, each id once. -/
theorem sorted_markInsert {t : List (Nat × MarkEntry)} (h : t.Pairwise fun a b => a.1 < b.1) (q : Nat) (e : MarkEntry) :
    (markInsert t q e).Pairwise fun a b => a.1 < b.1 := by
  induction t with
  | nil => simp [markInsert]
  | cons a t ih =>
    obtain ⟨hl, ht⟩ := List.pairwise_cons.1 h
    simp only [markInsert]
    split
    · rename_i h1
      refine List.pairwise_cons.2 ⟨fun p hp => ?_, h⟩
      rcases List.mem_cons.1 hp with rfl | hp
      · exact h1
      · exact lt_trans h1 (hl p hp)
    · split
      · rename_i h1 h2
        exact List.pairwise_cons.2 ⟨fun p hp => h2 ▸ hl p hp, ht⟩
      · refine List.pairwise_cons.2 ⟨fun p hp => ?_, ih ht⟩
        rcases key_of_mem_markInsert hp with rfl | hp
        · show a.1 < q
          omega
        · exact hl p hp

/-- R92: the entry of every id after a removal. -/
theorem markEntry?_markErase (t : List (Nat × MarkEntry)) (q p : Nat) :
    markEntry? (markErase t q) p = if p = q then none else markEntry? t p := by
  induction t with
  | nil => simp [markErase, markEntry?]
  | cons a t ih =>
    simp only [markErase, List.filter_cons] at *
    by_cases ha : a.1 = q
    · simp only [ha, bne_self_eq_false, Bool.false_eq_true, if_false, ih, markEntry?]
      by_cases hp : p = q
      · simp [hp]
      · rw [if_neg hp, if_neg hp, if_neg (Ne.symm hp)]
    · simp only [bne_iff_ne, ne_eq, ha, not_false_eq_true, if_true, markEntry?, ih]
      by_cases hp : p = q
      · simp [hp, ha]
      · simp [hp]

/-- R92: a removal takes one entry from a table that holds each id once. -/
theorem length_markErase {t : List (Nat × MarkEntry)} (h : t.Pairwise fun a b => a.1 < b.1) (q : Nat)
    (hq : markEntry? t q ≠ none) : (markErase t q).length + 1 = t.length := by
  induction t with
  | nil => simp [markEntry?] at hq
  | cons a t ih =>
    have hl := (List.pairwise_cons.1 h).1
    simp only [markErase, List.filter_cons] at *
    by_cases ha : a.1 = q
    · have hall : t.filter (fun p => p.1 != q) = t := by
        apply List.filter_eq_self.2
        intro p hp
        have := hl p hp
        simp only [bne_iff_ne, ne_eq]
        omega
      simp [ha, hall]
    · have hq' : markEntry? t q ≠ none := by simpa [markEntry?, ha] using hq
      simpa [ha] using ih (List.Pairwise.of_cons h) hq'

/-- R92: a removal keeps the table in ascending order. -/
theorem sorted_markErase {t : List (Nat × MarkEntry)} (h : t.Pairwise fun a b => a.1 < b.1) (q : Nat) :
    (markErase t q).Pairwise fun a b => a.1 < b.1 := h.filter _

/-! ### Severity levels (R129, R137, R143) -/

/-- R129: highestLevel answers 0 when no level has the property, and else the highest level that has it. -/
theorem highestLevel_spec (p : Nat → Bool) :
    (highestLevel p = 0 ∧ p 1 = false ∧ p 2 = false ∧ p 3 = false) ∨
      (1 ≤ highestLevel p ∧ highestLevel p ≤ 3 ∧ p (highestLevel p) = true ∧
        ∀ k, highestLevel p < k → k ≤ 3 → p k = false) := by
  unfold highestLevel
  cases h3 : p 3 <;> cases h2 : p 2 <;> cases h1 : p 1 <;> simp [h1, h2, h3]
  all_goals
    intro k hk hk3
    have : k = 2 ∨ k = 3 := by omega
    rcases this with rfl | rfl <;> simp_all

end Sys2Proof.Machine
end

