-- ==== Sys2Proof/Tests/Slice0.lean ====
section
/-! SUPPORT. Tests of single steps, with expected values taken from the manual's worked examples, tables and layouts (the
section is named beside each), and for every statement with hypotheses a named witness of states and operands that meet
them, clause by clause, at the boundary of their ranges where the clauses have one. -/

namespace Sys2Proof.Tests

-- The tests are elaborated one after another: side by side, the threads that wait for the kernel outrun the memory limit.
set_option Elab.async false

open Sys2Proof Sys2Proof.Machine

/-! ### Helpers -/

/-- The state a command leaves. -/
def after (c : Instr) (s : State) : State :=
  match exec c s with
  | .next t => t
  | .fault _ | .refused _ => s

/-- The status and results of the response placed last. -/
def reply (s : State) : Option (Status × List Octet) := s.ltx.responses.getLast?.map fun r => (r.status, r.results)

/-- A COMMAND frame of station 1 with tag 7 waits at CMU. -/
def asked (s : State) (code : Octet) (args : List Octet) : State :=
  s.withLrx { s.lrx with commands := [commandEntry 1 false code 7 args] }

/-- The same command, broadcast. -/
def told (s : State) (code : Octet) (args : List Octet) : State :=
  s.withLrx { s.lrx with commands := [commandEntry 1 true code 7 args] }

/-- A command asked can be taken when no reset is pending and the response queue has a free place. -/
theorem asked_canTake (s : State) (code : Octet) (args : List Octet) (h : s.cmu.resetPending = none)
    (h4 : s.ltx.responses.length < 4) : (asked s code args).CanTake (commandEntry 1 false code 7 args) [] :=
  ⟨rfl, h, .inr h4⟩

/-- A broadcast command can be taken whatever the response queue holds. -/
theorem told_canTake (s : State) (code : Octet) (args : List Octet) (h : s.cmu.resetPending = none) :
    (told s code args).CanTake (commandEntry 1 true code 7 args) [] :=
  ⟨rfl, h, .inl rfl⟩

/-- The part at station 5 with its receiver in READY and the run state STOPPED. -/
def ready : State :=
  { State.reset with station := 5, lrx := { State.reset.lrx with receiver := .ready, linkUp := true } }

/-- The same part in MEASURING under run number 1. -/
def running : State := { ready with cmu := { ready.cmu with runState := .measuring, runNumber := 1 } }

/-- The same part in SUSPENDED, cause COMMAND. -/
def halted : State := { ready with cmu := { ready.cmu with runState := .suspended .command, runNumber := 1 } }

/-- A response waiting in the response queue. -/
def someResponse : Response := { destination := 1, code := 0x01, tag := 0, status := .ok, results := [] }

/-- The part with its response queue full. -/
def crowded : State := ready.withLtx { ready.ltx with responses := List.replicate 4 someResponse }

/-- The part with reset pending. -/
def resetting : State := ready.withCmu { ready.cmu with resetPending := some .warm }

/-! ### The queue, the decoder, well-formedness -/

/-- Every operand carries its width in its type: the widest values are well formed, and no ill-formed command exists. -/
theorem test_widest_operands_are_wellFormed :
    (Instr.dataOctet 255).wellFormed = true ∧ (Instr.powerOnReset 63).wellFormed = true := by decide

/-- No row of the table gives bits, so no word spells a command and the queue is left alone. -/
theorem test_no_word_spells_a_command :
    decodeTableWord 8 0x31 = none ∧ (ready.withFetchWord 8 0x31).pending = [] := by decide

/-- With nothing waiting the block idles; else the command in front is carried out. -/
theorem test_step_takes_the_front :
    step ready = .next ready ∧
      (match step { ready with pending := [.start, .idle] } with
        | .next t => t.pending = [.idle] ∧ t.lrx.receiver = .receiving .fresh
        | _ => False) := ⟨rfl, rfl, rfl⟩

/-- Witness of FrontCommandRunsAndAnEmptyQueueIdles. -/
theorem witness_queue : ({ ready with pending := [.start, .idle] } : State).pending = .start :: [.idle] ∧
    ready.pending = [] := by decide

/-! ### Resets (R36, R37) -/

/-- R37: the straps are sampled, the receiver hunts and the outbound lane sends IDLE. -/
theorem test_powerOnReset :
    (after (.powerOnReset 9) ready).station = 9 ∧ (after (.powerOnReset 9) ready).lrx.receiver = .hunt ∧
      (after (.powerOnReset 9) ready).outbound = [.idle] := by decide

/-- R36: a RESET sets reset pending and answers OK; nothing else happens yet. -/
theorem test_resetWarm :
    (after .resetWarm (asked ready 0x03 [])).cmu.resetPending = some .warm ∧
      reply (after .resetWarm (asked ready 0x03 [])) = some (.ok, []) := by decide

theorem test_resetCold :
    (after .resetCold (asked ready 0x04 [])).cmu.resetPending = some .cold ∧
      reply (after .resetCold (asked ready 0x04 [])) = some (.ok, []) := by decide

/-- The response of an executed RESET, of the given code. -/
def resetResponse (code : Octet) : Response := { someResponse with code := code }

/-- The worked example "RESET WARM while a command frame arrives", step 1: a READ MARK waits, a frame is open, 40 good
frames are counted, and a channel has a gain of its own. -/
def resetEnding (code : Octet) : State :=
  { ready with
    lrx := { ready.lrx with
      receiver := .receiving { octets := [5, 1, 0x32], header := none, check := 0, copyVoid := false }
      commands := [commandEntry 1 false 0x53 7 [0, 1]]
      counters := { ready.lrx.counters with goodFrames := 40 } }
    cal := { ready.cal with channels := ready.cal.channels.set 0 { ChannelEntry.default with gain := 2 } }
    ltx := { ready.ltx with lane := .own (.response (resetResponse code)), hold := .go } }

/-- That example, step 1, for RESET WARM: both queues empty, the count 0, the frame kept open, the table kept. -/
theorem test_transmissionEnd_resetWarm :
    let t := after .transmissionEnd (resetEnding 0x03)
    t.lrx.commands = [] ∧ t.lrx.counters.goodFrames = 0 ∧ t.ltx.lane = .idle ∧ t.ltx.hold = .go ∧
      t.lrx.receiver = .receiving { octets := [5, 1, 0x32], header := none, check := 0, copyVoid := true } ∧
      (t.cal.channels[(0 : Fin 12)]).gain = 2 := by decide +kernel

/-- R36: RESET COLD sets the tables to their defaults too. -/
theorem test_transmissionEnd_resetCold :
    ((after .transmissionEnd (resetEnding 0x04)).cal.channels[(0 : Fin 12)]).gain = 16384 := by decide +kernel

/-- Witness of ResetCommandsTakeEffectAtTheEndOfTheirResponse. -/
theorem witness_resets :
    (asked ready 0x03 []).CanTake (commandEntry 1 false 0x03 7 []) [] ∧
      (asked ready 0x04 []).CanTake (commandEntry 1 false 0x04 7 []) [] ∧
      (∀ code, code = 0x03 ∨ code = 0x04 → (resetEnding code).ltx.lane = .own (.response (resetResponse code)) ∧
        (resetResponse code).status = .ok ∧ ((resetResponse code).code = 0x03 ∨ (resetResponse code).code = 0x04)) :=
  ⟨asked_canTake _ _ _ rfl (by decide), asked_canTake _ _ _ rfl (by decide), fun _ h => ⟨rfl, rfl, h⟩⟩

/-! ### The frame link receiver (chapter 1) -/

/-- A frame with these octets is being assembled at station 5. -/
def frameOf (os : List Octet) : Assembly :=
  { octets := os
    header := if os.length < 5 then none else some (headerOf 5 (os.take 5))
    check := checkWord (os.take (if os.length < 5 then 5 else 5 + (headerOf 5 (os.take 5)).length))
    copyVoid := false }

/-- That frame is in RECEIVING at the part. -/
def receiving (os : List Octet) : State := ready.withLrx { ready.lrx with receiver := .receiving (frameOf os) }

/-- R3: with all ones preset and no inversion, the octets of the text "123456789" give 29B1 (the published check value of
this polynomial; not in the manual). -/
theorem test_checkWord : checkWord [0x31, 0x32, 0x33, 0x34, 0x35, 0x36, 0x37, 0x38, 0x39] = 0x29B1 := by decide +kernel

/-- R6, R7: a stray octet in READY is a framing error and the receiver hunts, with the link-up flag kept (worked example "a
short run of frames"). -/
theorem test_dataOctet_stray :
    (after (.dataOctet 0x5A) ready).lrx.receiver = .hunt ∧ (after (.dataOctet 0x5A) ready).lrx.linkUp = true ∧
      (after (.dataOctet 0x5A) ready).lrx.counters.framingErrors = 1 := by decide

/-- Frame A of that example: the fifth header octet of a broadcast SENSOR frame decides consume and forward. -/
theorem test_dataOctet_header :
    let t := after (.dataOctet 38) (receiving [255, 2, 0x31, 0])
    t.lrx.receiver = .receiving (frameOf [255, 2, 0x31, 0, 38]) ∧
      (headerOf 5 [255, 2, 0x31, 0, 38]).disposition = .consumeAndForward ∧ t.ltx.store = some [255, 2, 0x31, 0, 38] := by
  decide +kernel

/-- IDLE ends the hunt (R5); frame B of that example: IDLE in a frame that is being copied cut-through. -/
theorem test_idle :
    (after .idle State.reset).lrx.receiver = .ready ∧ (after .idle State.reset).lrx.linkUp = true ∧
      (let s := receiving ([255, 2, 0x31, 0, 38] ++ List.replicate 20 0)
       let t := after .idle (s.withLtx { s.ltx with lane := .cutThrough })
       t.lrx.receiver = .ready ∧ t.lrx.counters.framingErrors = 1 ∧ t.ltx.lane = .idle ∧ t.outbound = [.abort] ∧
        t.lrx.intake = []) := by
  decide +kernel

theorem test_start :
    (after .start ready).lrx.receiver = .receiving (frameOf []) ∧
      (after .start (receiving [5, 1])).lrx.counters.framingErrors = 1 ∧
      (after .start (receiving [5, 1])).lrx.receiver = .receiving (frameOf []) := by decide +kernel

/-- The octets of a frame for station 5 from station 1 whose check word is right. -/
def goodFrame (kind : Octet) (payload : List Octet) : List Octet := frameOctets 5 1 kind payload

/-- R10, R18: a good COMMAND frame for the part joins the command queue. -/
theorem test_end_good :
    let t := after .endFrame (receiving (goodFrame 0x32 [0x01, 0, 7]))
    t.lrx.receiver = .ready ∧ t.lrx.counters.goodFrames = 1 ∧ t.lrx.commands = [commandEntry 1 false 0x01 7 []] := by
  decide +kernel

/-- Frame C of that example: the count is right and the check word is not. -/
theorem test_end_check_error :
    let t := after .endFrame (receiving ([5, 1, 0x32, 0, 6, 1, 2, 3, 4, 5, 6] ++ [0, 0]))
    t.lrx.receiver = .ready ∧ t.lrx.counters.checkErrors = 1 ∧ t.lrx.counters.goodFrames = 0 ∧ t.lrx.commands = [] := by
  decide +kernel

theorem test_abort :
    (after .abort (receiving [5, 1])).lrx.counters.abortsReceived = 1 ∧
      (after .abort (receiving [5, 1])).lrx.receiver = .ready ∧
      (after .abort ready).lrx.counters.framingErrors = 1 := by decide +kernel

theorem test_lossOfLock :
    (after .lossOfLock ready).lrx.receiver = .hunt ∧ (after .lossOfLock ready).lrx.linkUp = false ∧
      (after .lossOfLock ready).lrx.counters.lockLosses = 1 ∧ (after .lossOfLock ready).lineLock = false := by decide

theorem test_lockAcquired :
    (after .lockAcquired (ready.withLineLock false)).lineLock = true ∧
      (after .idle (ready.withLineLock false)).lrx.receiver = .ready := by decide

/-- Witness of ArrivalsOutsideAFrameAndLossOfLock: READY, HUNT, and lock lost. -/
theorem witness_arrivals :
    ready.lineLock = true ∧ ready.lrx.receiver = .ready ∧ State.reset.lineLock = true ∧
      State.reset.lrx.receiver = .hunt ∧ (ready.withLineLock false).lineLock = false ∧
      State.reset.lrx.receiver.handed.isSome = false ∧ (receiving [255, 2, 0x31, 0, 38]).lrx.receiver.handed.isSome = true := by
  decide +kernel

/-- Witness of ControlSymbolsEndTheOpenFrame: a frame handed over, and one that is not. -/
theorem witness_open_frame :
    (receiving [255, 2, 0x31, 0, 38]).lineLock = true ∧
      (receiving [255, 2, 0x31, 0, 38]).lrx.receiver = .receiving (frameOf [255, 2, 0x31, 0, 38]) ∧
      (frameOf [255, 2, 0x31, 0, 38]).handsOver = true ∧ (frameOf []).handsOver = false := by decide +kernel

/-- Witness of DataOctetsBuildTheFrame: counts 0 and 3; headers of length 1,024 and 1,025; the last octet of a frame and the
one too many; and a frame to be passed on whose copy a commanded reset has made void. -/
theorem witness_data_octets :
    (receiving []).lineLock = true ∧ (receiving []).lrx.receiver = .receiving (frameOf []) ∧
      (frameOf []).header = none ∧ (frameOf []).octets.length = 0 ∧
      (frameOf [5, 1, 0x32]).header = none ∧ (frameOf [5, 1, 0x32]).octets.length = 3 ∧
      (frameOf [5, 1, 0x32, 4]).header = none ∧ (frameOf [5, 1, 0x32, 4]).octets = [5, 1, 0x32, 4] ∧
      (4 : Octet).toNat * 256 + (0 : Octet).toNat = 1024 ∧ (4 : Octet).toNat * 256 + (1 : Octet).toNat = 1025 ∧
      (frameOf [5, 1, 0x32, 0, 0]).header = some (headerOf 5 [5, 1, 0x32, 0, 0]) ∧
      (frameOf [5, 1, 0x32, 0, 0]).octets.length + 1 < 8 + (headerOf 5 [5, 1, 0x32, 0, 0]).length ∧
      (frameOf [5, 1, 0x32, 0, 0, 1]).octets.length + 1 = 7 + (headerOf 5 [5, 1, 0x32, 0, 0]).length ∧
      (frameOf [5, 1, 0x32, 0, 0, 1, 2]).octets.length + 1 = 8 + (headerOf 5 [5, 1, 0x32, 0, 0]).length ∧
      (let f := { frameOf [9, 1, 0x34, 0] with copyVoid := true }
       f.header = none ∧ f.octets = [9, 1, 0x34, 0] ∧ f.copyVoid = true ∧
        (headerOf 5 [9, 1, 0x34, 0, 0]).disposition = .forward) := by
  decide +kernel

/-- R14: that frame is received on and not passed on. -/
theorem test_dataOctet_void_copy :
    let f := { frameOf [9, 1, 0x34, 0] with copyVoid := true }
    let t := after (.dataOctet 0) (ready.withLrx { ready.lrx with receiver := .receiving f })
    t.ltx = ready.ltx ∧ t.outbound = [] ∧ t.lrx.receiver.handed = none ∧ t.lrx.receiver ≠ .hunt := by decide +kernel

/-- The largest frame accepted and a header one octet longer. -/
theorem test_dataOctet_length_limit :
    (after (.dataOctet 0) (receiving [5, 1, 0x32, 4])).lrx.receiver = .receiving (frameOf [5, 1, 0x32, 4, 0]) ∧
      (after (.dataOctet 1) (receiving [5, 1, 0x32, 4])).lrx.receiver = .hunt ∧
      (after (.dataOctet 1) (receiving [5, 1, 0x32, 4])).lrx.counters.lengthErrors = 1 := by decide +kernel

/-- Witness of EndJudgesTheFrame: no header, a wrong count, a wrong check word, and good frames of each disposition. -/
theorem witness_end :
    (frameOf [5, 1, 0x32, 0]).header = none ∧
      (let f := frameOf [5, 1, 0x32, 0, 1, 0]
       f.header = some (headerOf 5 [5, 1, 0x32, 0, 1]) ∧ f.octets.length ≠ 7 + (headerOf 5 [5, 1, 0x32, 0, 1]).length) ∧
      (let f := frameOf [5, 1, 0x32, 0, 0, 0, 0]
       f.octets.length = 7 + (headerOf 5 [5, 1, 0x32, 0, 0]).length ∧ field f.octets 5 2 ≠ f.check.toNat) ∧
      ∀ d ∈ [((5 : Octet), (1 : Octet), Disposition.consume), (255, 1, .consumeAndForward), (9, 5, .remove), (9, 1, .forward)],
        (frameOf (frameOctets d.1 d.2.1 0x32 [])).header.map Header.disposition = some d.2.2 ∧
        (frameOf (frameOctets d.1 d.2.1 0x32 [])).octets.length = 7 ∧
        field (frameOctets d.1 d.2.1 0x32 []) 5 2 = (frameOf (frameOctets d.1 d.2.1 0x32 [])).check.toNat := by
  decide +kernel

/-- A sensor entry that is all zero but for its sequence number, its mark and its overrun mark. -/
def sensor (sequence : Half) (mark : Option Nat) (overrun : Bool) : SensorEntry :=
  { tach := 0, timestamp := 0, sequence := sequence, markId := mark, raw := Vector.replicate 12 0, sensorValid := 0,
    overrun := overrun }

/-- The full intake queue of the worked example "overrun of the sensor intake queue". -/
def fullIntake : Lrx :=
  { ready.lrx with intake := (List.range 7).map (fun i => sensor (BitVec.ofNat 16 (100 + i)) none false) ++ [sensor 107 (some 4021) false] }

/-- That example: frame 108 replaces the tail entry, keeps mark 4021 and carries the overrun mark; sensor_overruns is 1. -/
theorem test_sensor_overrun :
    (fullIntake.takeSensor (sensor 108 none false)).intake.getLast? = some (sensor 108 (some 4021) true) ∧
      (fullIntake.takeSensor (sensor 108 none false)).intake.length = 8 ∧
      (fullIntake.takeSensor (sensor 108 none false)).counters.sensorOverruns = 1 := by decide +kernel

/-- Witness of GoodFramesAreConsumedByKind. -/
theorem witness_consume :
    (headerOf 5 [5, 2, 0x31, 0, 38]).kind = 0x31 ∧ (List.replicate 38 (0 : Octet)).length = 38 ∧
      (List.replicate 37 (0 : Octet)).length ≠ 38 ∧ (headerOf 5 [5, 1, 0x32, 0, 3]).kind = 0x32 ∧
      (asked ready 0x01 []).lrx.commands.length < 4 ∧
      4 ≤ (ready.withLrx { ready.lrx with commands := List.replicate 4 (commandEntry 1 false 1 7 []) }).lrx.commands.length ∧
      (headerOf 5 [5, 1, 0x33, 0, 0]).kind ≠ 0x31 ∧ (headerOf 5 [5, 1, 0x33, 0, 0]).kind ≠ 0x32 ∧
      fullIntake.intake.tail.length < 8 ∧
      fullIntake.intake = fullIntake.intake.dropLast ++ [sensor 107 (some 4021) false] ∧ 8 ≤ fullIntake.intake.length := by
  decide +kernel

/-- READY at station 5, with the symbols of a COMMAND frame from station 1 about to arrive, this downstream indication and this
many frames in the forward queue. -/
def arriving (destination : Octet) (payload : List Octet) (indication : FlowIndication) (queued : Nat) : State :=
  { ready with
    ltx := { ready.ltx with hold := indication, forward := List.replicate queued [8] }
    pending := .start :: ((frameOctets destination 1 0x32 payload).map Instr.dataOctet ++ [Instr.endFrame]) }

/-- Witness of AssembledCommandFrameIsReceivedWhole: the empty payload and the largest one, to the part and broadcast; the
lane free, HOLD with three frames in the forward queue and HOLD with four. -/
theorem witness_whole_frame (payload : List Octet) (h : payload = [] ∨ payload = List.replicate 1024 0) (destination : Octet)
    (indication : FlowIndication) (queued : Nat) :
    let s := arriving destination payload indication queued
    (s.lineLock = true ∧ s.lrx.receiver = .ready ∧ s.lrx.commands.length < 4 ∧ payload.length ≤ 1024 ∧
      s.pending = .start :: ((frameOctets destination 1 0x32 payload).map Instr.dataOctet ++ .endFrame :: []) ∧
      s.stationOctet = 5 ∧ (1 : Octet) ≠ s.stationOctet ∧ s.ltx.lane = .idle ∧ s.ltx.alerts = [] ∧
      s.ltx.hold = indication ∧ s.ltx.forward.length = queued) ∧
      (List.replicate 0 [(8 : Octet)] = [] ∧ FlowIndication.hold ≠ .go ∧ 3 < 4 ∧ 4 ≤ 4) := by
  refine ⟨⟨rfl, rfl, (by decide : 0 < 4), ?_, rfl, rfl, (by decide : (1 : Octet) ≠ 5), rfl, rfl, rfl,
    List.length_replicate⟩, by decide⟩
  rcases h with rfl | rfl
  · exact Nat.zero_le _
  · exact Nat.le_of_eq List.length_replicate

/-- R16, R196: the fields of a SENSOR payload of 38 octets. -/
theorem test_sensor_layout :
    let e := sensorEntry (octetsOf 4 40003000 ++ octetsOf 4 1000000 ++ octetsOf 2 61001 ++ octetsOf 2 4021 ++ octetsOf 2 0x0FFF ++
      octetsOf 2 12000 ++ octetsOf 2 (-5) ++ List.replicate 20 0)
    e.tach = 40003000 ∧ e.timestamp = 1000000 ∧ e.sequence = 61001 ∧ e.markId = some 4021 ∧ e.sensorValid = 0xFFF ∧
      e.raw[(0 : Fin 12)] = 12000 ∧ e.raw[(1 : Fin 12)] = -5 ∧ e.overrun = false := by decide +kernel

/-! ### Frames passed on (R189 to R192) -/

/-- The lane free and GO in force. -/
def clearLane : State := running.withLtx { running.ltx with hold := .go }

/-- R190: with the lane free the copy begins at once; R191: under HOLD it is stored. -/
theorem test_frame_start_notice :
    (clearLane.frameStartNotice [9, 1, 0x34, 0, 0]).ltx.lane = .cutThrough ∧
      (clearLane.frameStartNotice [9, 1, 0x34, 0, 0]).outbound = [.start, .octet 9, .octet 1, .octet 0x34, .octet 0, .octet 0] ∧
      (ready.frameStartNotice [9, 1, 0x34, 0, 0]).ltx.store = some [9, 1, 0x34, 0, 0] := by decide +kernel

/-- R190, R191: the copy aborted at a drop notice (the worked example "arbitration and a cut-through abort"), and a stored
frame with no room in the forward queue. -/
theorem test_copy_ends :
    let copying := clearLane.withLtx { clearLane.ltx with lane := .cutThrough }
    let stored := clearLane.withLtx { clearLane.ltx with store := some [9], forward := List.replicate 4 [8] }
    copying.dropNotice.outbound = [.abort] ∧ copying.endNotice.outbound = [.endFrame] ∧
      (copying.handOctet 3).outbound = [.octet 3] ∧ stored.endNotice.ltx.forwardsDropped = 1 ∧
      stored.endNotice.ltx.forward.length = 4 := by decide +kernel

/-- Witness of FramesArePassedOnWholeOrAborted: a free lane, HOLD, a cut-through copy, and a stored frame with three and four
frames in the forward queue. -/
theorem witness_passed_on :
    (clearLane.ltx.lane = .idle ∧ clearLane.ltx.hold = .go ∧ clearLane.ltx.forward = [] ∧ clearLane.ltx.alerts = []) ∧
      ¬(ready.ltx.lane = .idle ∧ ready.ltx.hold = .go ∧ ready.ltx.forward = [] ∧ ready.ltx.alerts = []) ∧
      (clearLane.withLtx { clearLane.ltx with lane := .cutThrough }).ltx.lane = .cutThrough ∧
      ∀ n ∈ [3, 4], let s := clearLane.withLtx { clearLane.ltx with store := some [9], forward := List.replicate n [8] }
        s.ltx.lane ≠ .cutThrough ∧ s.ltx.store = some [9] ∧ s.ltx.forward.length = n := by decide +kernel

/-! ### The command unit (chapter 2) -/

/-- R38, R196: vendor 83, part 620, revision 1, station 5, STOPPED. -/
theorem test_identify :
    reply (after .identify (asked ready 0x01 [])) = some (.ok, [0, 83, 0x02, 0x6C, 1, 5, 0, 0]) := by decide +kernel

/-- R22, R39: the link counters are reported as they stood and then cleared. -/
theorem test_readStatus :
    let s := ready.withLrx { ready.lrx with counters := { ready.lrx.counters with goodFrames := 261 } }
    let t := after .readStatus (asked s 0x02 [1])
    (reply t).map (fun r => (r.1, r.2.length, field r.2 7 2)) = some (.ok, 65, 261) ∧ t.lrx.counters = .zero := by
  decide +kernel

/-- The worked example "commands waiting for response room": a command waits while the response queue is full. -/
theorem test_command_waits_for_room :
    after .identify (asked crowded 0x01 []) = asked crowded 0x01 [] := by decide +kernel

/-- R26, case 2: a broadcast IDENTIFY is discarded and counted. -/
theorem test_commandDiscarded :
    let t := after .commandDiscarded (told ready 0x01 [])
    t.cmu.commandsDiscarded = 1 ∧ t.lrx.commands = [] ∧ t.ltx.responses = [] := by decide +kernel

/-- R26, case 3: 0x7F names no command; the response echoes the code and the tag. -/
theorem test_unknownCommand :
    (after .unknownCommand (asked ready 0x7F [])).ltx.responses =
      [{ destination := 1, code := 0x7F, tag := 7, status := .unknown, results := [] }] := by decide +kernel

/-- Witness of EntriesAreTakenDiscardedOrWait: each reason to discard, an unknown code, and each reason to wait. -/
theorem witness_entries :
    (told ready 0x01 []).CanTake (commandEntry 1 true 0x01 7 []) [] ∧ (0x01 : Octet) ∉ broadcastCodes ∧
      (ready.withLrx { ready.lrx with commands := [{ source := 1, broadcast := false, payload := [1, 0] }] }).CanTake
        { source := 1, broadcast := false, payload := [1, 0] } [] ∧ [(1 : Octet), 0].length < 3 ∧
      (asked ready 0x7F []).CanTake (commandEntry 1 false 0x7F 7 []) [] ∧ (0x7F : Octet) ∉ commandCodes ∧
      isPlainCommand .identify = true ∧ resetting.cmu.resetPending ≠ none ∧ ready.lrx.commands = [] ∧
      4 ≤ (asked crowded 0x01 []).ltx.responses.length ∧ (commandEntry 1 false 0x01 7 []).row ≠ .stop :=
  ⟨told_canTake _ _ _ rfl, by decide, ⟨rfl, rfl, .inr (by decide)⟩, by decide, asked_canTake _ _ _ rfl (by decide), by decide, rfl,
    by decide, rfl, by decide, by decide⟩

/-- R26, case 4: SET POSITION with three argument octets. -/
theorem test_wrong_length :
    reply (after .setPosition (asked ready 0x14 [0, 0, 0])) = some (.length, []) := by decide +kernel

/-- R26, case 5: START in MEASURING, addressed and broadcast. -/
theorem test_wrong_run_state :
    reply (after .startCommand (asked running 0x10 [])) = some (.state, []) ∧
      (after .startCommand (told running 0x10 [])).cmu.commandsDiscarded = 1 := by decide +kernel

/-- Witness of WrongLengthOrRunStateIsRefused: a wrong length and a wrong run state, addressed and broadcast. -/
theorem witness_refused :
    isPlainCommand .setPosition = true ∧ commandCode? 0x14 = some (.setPosition, 4) ∧
      (asked ready 0x14 [0, 0, 0]).CanTake (commandEntry 1 false 0x14 7 [0, 0, 0]) [] ∧ [(0 : Octet), 0, 0].length ≠ 4 ∧
      isPlainCommand .startCommand = true ∧ commandCode? 0x10 = some (.startCommand, 0) ∧ (0x10 : Octet) ∈ broadcastCodes ∧
      (told running 0x10 []).CanTake (commandEntry 1 true 0x10 7 []) [] ∧ ¬acceptedIn .startCommand running.cmu.runState ∧
      (told ready 0x10 [1]).CanTake (commandEntry 1 true 0x10 7 [1]) [] ∧ [(1 : Octet)].length ≠ 0 :=
  ⟨rfl, rfl, asked_canTake _ _ _ rfl (by decide), by decide, rfl, rfl, by decide, told_canTake _ _ _ rfl,
    by simp [acceptedIn, running], told_canTake _ _ _ rfl, by decide⟩

/-- Witness of IdentifyReadConfigAndReadStatusReport: the clear option no, yes and neither. -/
theorem witness_reports (clear : Octet) :
    (asked ready 0x01 []).CanTake (commandEntry 1 false 0x01 7 []) [] ∧
      (asked ready 0x21 []).CanTake (commandEntry 1 false 0x21 7 []) [] ∧
      (asked ready 0x02 [clear]).CanTake (commandEntry 1 false 0x02 7 [clear]) [] ∧ (2 : Octet) ≠ 0 ∧ (2 : Octet) ≠ 1 :=
  ⟨asked_canTake _ _ _ rfl (by decide), asked_canTake _ _ _ rfl (by decide), asked_canTake _ _ _ rfl (by decide), by decide,
    by decide⟩

/-- R33, R35, R196: the default record as 26 octets. -/
theorem test_readConfig :
    reply (after .readConfig (asked ready 0x21 [])) =
      some (.ok, [0, 250, 9, 196, 3, 0, 150, 0, 50, 32, 0, 8, 0, 0, 0, 39, 16, 0, 0, 117, 48, 1, 244, 0, 200, 0]) := by
  decide +kernel

/-- The default record with another lower pitch limit. -/
def pitchFrom (mm : Nat) : ConfigRecord := { ConfigRecord.default with pitchMinMm := mm }

/-- R33: the whole record is replaced; the cross-check of the pitch limits fails at 30,001 over 30,000. -/
theorem test_setConfig :
    (after .setConfig (asked ready 0x20 (configArguments (pitchFrom 30000) 4))).cmu.config =
        { pitchFrom 30000 with defaultBand := 4 } ∧
      reply (after .setConfig (asked ready 0x20 (configArguments (pitchFrom 30001) 4))) = some (.badTable, []) := by
  decide +kernel

/-- R33: a default_band of 5 is out of range. -/
theorem test_setConfig_badArg :
    reply (after .setConfig (asked ready 0x20 (configArguments .default 5))) = some (.badArg, []) := by decide +kernel

theorem pitchFrom_carried (mm : Nat) (h : mm < 4294967296) : (pitchFrom mm).Carried :=
  ⟨by simp [pitchFrom, ConfigRecord.default], by simp [pitchFrom, ConfigRecord.default], h,
    by simp [pitchFrom, ConfigRecord.default]⟩

theorem pitchFrom_inRange (mm : Nat) (h : 1000 ≤ mm ∧ mm ≤ 100000) : (pitchFrom mm).InRange := by
  constructor <;> first | exact h | simp [pitchFrom, ConfigRecord.default]

/-- Witness of SetConfigChecksThenReplacesTheRecord: bands 4 and 5, a pitch limit of 999, and the cross-check met and failed
at its boundary. -/
theorem witness_setConfig :
    (∀ c band, (asked ready 0x20 (configArguments c band)).CanTake (commandEntry 1 false 0x20 7 (configArguments c band)) []) ∧
      (asked ready 0x20 (configArguments .default 0)).cmu.runState = .stopped ∧
      ((pitchFrom 30000).Carried ∧ (pitchFrom 30000).InRange ∧ (pitchFrom 30000).pitchMinMm ≤ (pitchFrom 30000).pitchMaxMm) ∧
      ((pitchFrom 30001).InRange ∧ ¬(pitchFrom 30001).pitchMinMm ≤ (pitchFrom 30001).pitchMaxMm) ∧
      ¬(pitchFrom 999).InRange ∧ (4 < 5 ∧ ¬5 < 5) ∧
      ∀ (m : Fin 16) (p : Fin 10) (l : Nat), ¬(ready.mse.measures[m] = .chord p l ∨ ready.mse.measures[m] = .twist p l) := by
  refine ⟨fun _ _ => asked_canTake _ _ _ rfl (by decide), rfl,
    ⟨pitchFrom_carried _ (by decide), pitchFrom_inRange _ (by decide), by decide⟩,
    ⟨pitchFrom_inRange _ (by decide), by decide⟩, fun h => absurd h.pitchMin.1 (by decide), by decide, ?_⟩
  simp [ready, State.reset, Mse.cold]

/-- R35, R196: SET STREAM is taken in any run state; a block size of 17 is refused. -/
theorem test_setStream :
    (after .setStream (asked running 0x22 [0x80, 0x01, 16])).cmu.streamMask = 0x8001 ∧
      (after .setStream (asked running 0x22 [0x80, 0x01, 16])).cmu.blockSize = 16 ∧
      reply (after .setStream (asked running 0x22 [0x80, 0x01, 17])) = some (.badArg, []) := by decide +kernel

/-- Witness of SetStreamReplacesTheSettings: sizes 0, 1, 16 and 17. -/
theorem witness_setStream (size : Nat) :
    (asked ready 0x22 (octetsOf 2 (0 : Half).toNat ++ octetsOf 1 size)).CanTake
        (commandEntry 1 false 0x22 7 (octetsOf 2 (0 : Half).toNat ++ octetsOf 1 size)) [] ∧
      (0 = 0 ∧ 16 < 17) ∧ (1 ≤ 1 ∧ 16 ≤ 16 ∧ 17 < 256) :=
  ⟨asked_canTake _ _ _ rfl (by decide), by decide, by decide⟩

/-- R28: START enters MEASURING under the next run number, with the grid one step on. -/
theorem test_startCommand :
    let t := after .startCommand (asked ready 0x10 [])
    t.cmu.runState = .measuring ∧ t.cmu.runNumber = 1 ∧ t.odo.n = 250000 ∧ t.stu.openAfterStart = true ∧
      reply t = some (.ok, []) := by decide +kernel

/-- R29, R30: STOP and SUSPEND leave MEASURING with the run number kept. -/
theorem test_stop :
    (after .stop (asked running 0x11 [])).cmu.runState = .stopped ∧ (after .stop (asked running 0x11 [])).cmu.runNumber = 1 := by
  decide +kernel

theorem test_suspend :
    (after .suspend (asked running 0x12 [])).cmu.runState = .suspended .command ∧
      reply (after .suspend (asked ready 0x12 [])) = some (.state, []) := by decide +kernel

/-- The worked example "reverse suspension and resumption": a rollback is dropped by RESUME, and location is lost with it. -/
theorem test_resume :
    let s := { halted with
      cmu := { halted.cmu with runState := .suspended .reverse }
      odo := { halted.odo with d := 4250000, r := 200000000 }
      loc := { halted.loc with located := true, offset := 10, epoch := 3 } }
    let t := after .resume (asked s 0x13 [])
    t.cmu.runState = .measuring ∧ t.cmu.runNumber = 2 ∧ t.odo.r = 0 ∧ t.odo.gapPending = true ∧ t.loc.located = false ∧
      t.loc.epoch = 3 ∧ t.ltx.locations = [{ kind := .locationLost true, measured := 4250, offset := 10, epoch := 3,
                                             located := false, lost := 0 }] := by decide +kernel

/-- That example: the request suspends with cause REVERSE and LOC emits REVERSE_SUSPEND; a request of an earlier run is void. -/
theorem test_reverseLimitRequest :
    let s := fun run => running.withLinks { running.links with reverseRequest := some run }
    (after .reverseLimitRequest (s 1)).cmu.runState = .suspended .reverse ∧
      (after .reverseLimitRequest (s 1)).ltx.locations.map LocationRecord.kind = [.reverseSuspend] ∧
      (after .reverseLimitRequest (s 0)).cmu.runState = .measuring ∧
      (after .reverseLimitRequest (s 0)).links.reverseRequest = none := by decide +kernel

/-- Witness of StartAndResumeEnterMeasuring. -/
theorem witness_start :
    (asked ready 0x10 []).CanTake (commandEntry 1 false 0x10 7 []) [] ∧ ready.cmu.runState = .stopped ∧
      (∀ z, ready.cal.zero ≠ .collecting z) ∧
      (asked halted 0x13 []).CanTake (commandEntry 1 false 0x13 7 []) [] ∧ halted.cmu.runState = .suspended .command :=
  ⟨asked_canTake _ _ _ rfl (by decide), rfl, fun _ => nofun, asked_canTake _ _ _ rfl (by decide), rfl⟩

/-- Witness of StopAndSuspensionsEndTheOpenExceedances. -/
theorem witness_stop (run : BitVec 8) :
    let s := running.withLinks { running.links with reverseRequest := some run }
    (asked ready 0x11 []).CanTake (commandEntry 1 false 0x11 7 []) [] ∧ ready.cmu.runState = .stopped ∧
      (told running 0x11 []).CanTake (commandEntry 1 true 0x11 7 []) [] ∧ running.cmu.runState ≠ .stopped ∧
      (asked running 0x12 []).CanTake (commandEntry 1 false 0x12 7 []) [] ∧ running.cmu.runState = .measuring ∧
      s.links.reverseRequest = some run ∧ ((1 : BitVec 8) = s.cmu.runNumber ∧ (0 : BitVec 8) ≠ s.cmu.runNumber) :=
  ⟨asked_canTake _ _ _ rfl (by decide), rfl, told_canTake _ _ _ rfl, by decide, asked_canTake _ _ _ rfl (by decide), rfl, rfl,
    (by decide : (1 : BitVec 8) = 1 ∧ (0 : BitVec 8) ≠ 1)⟩

/-- A sample of run 1 at grid point 250 mm. -/
def someSample : Sample :=
  { run := 1, index := 0, point := 250000, lowSpeed := false, seqGap := false, speed := 2500
    channels := Vector.replicate 12 .invalid }

/-- That sample as LOC hands it on. -/
def someLocated : LocatedSample :=
  { sample := someSample, position := 250, unlocated := true, band := 0, suppress := 0, cant := none, epoch := 0 }

/-- A row of run 1 with every measure invalid. -/
def someRow : Row :=
  { run := 1, index := 0, position := 250, unlocated := true, lowSpeed := false, seqGap := false, speed := 2500, band := 0
    suppress := 0, epoch := 0, cantTable := false, measures := Vector.replicate 16 .invalid }

/-- Everything of run 1 waits at every stage, in a part that is STOPPED. -/
def staleRows (x : RowItem) : State :=
  { ready with links := { ready.links with mseToExd := [x], mseToStu := [x], mseToLtx := [x] } }

/-- R24: the stages discard what the run state no longer lets them keep. -/
theorem test_stale_rows :
    (after .rowEvent (staleRows (.row someRow))).links.mseToExd = [] ∧
      (after .rowEvent (staleRows (.row someRow))).ext = ready.ext ∧
      (after .stuRowEvent (staleRows (.row someRow))).stu = ready.stu ∧
      (after .ltxRow (staleRows (.row someRow))).ltx = ready.ltx ∧
      (after .ltxGapNotice (staleRows (.gap 1))).ltx.gapMark = false := by decide +kernel

/-- Witness of StaleWorkIsDiscardedAtEveryStage: STOPPED, and MEASURING under another run number. -/
theorem witness_stale :
    ¬(ready.cmu.runState = .measuring ∧ (1 : BitVec 8) = ready.cmu.runNumber) ∧
      ¬(running.cmu.runState = .measuring ∧ (0 : BitVec 8) = running.cmu.runNumber) ∧
      (let s := ready.withLinks { ready.links with odoToLoc := [.sample someSample] }
       s.links.odoToLoc = [.sample someSample] ∧ s.links.locToMse = none ∧ someSample.run = 1) ∧
      (let s := ready.withLinks { ready.links with odoToLoc := [.gap 1] }
       s.links.odoToLoc = [.gap 1] ∧ s.links.locToMse = none) ∧
      (let s := ready.withLinks { ready.links with locToMse := some (.sample someLocated) }
       s.links.locToMse = some (.sample someLocated) ∧ s.links.rowsTaken = true ∧ someLocated.sample.run = 1) ∧
      (let s := ready.withLinks { ready.links with locToMse := some (.gap 1) }
       s.links.locToMse = some (.gap 1) ∧ s.links.rowsTaken = true) ∧
      ((staleRows (.row someRow)).links.mseToExd = [.row someRow] ∧ (staleRows (.row someRow)).links.mseToStu = [.row someRow] ∧
        (staleRows (.row someRow)).links.mseToLtx = [.row someRow] ∧ someRow.run = 1) ∧
      (staleRows (.gap 1)).links.mseToExd = [.gap 1] ∧ (staleRows (.gap 1)).links.mseToStu = [.gap 1] ∧
        (staleRows (.gap 1)).links.mseToLtx = [.gap 1] := by decide +kernel

/-- Witness of RunNumberCountsTheEntriesIntoMeasuring: START enters MEASURING. -/
theorem witness_run_number :
    ∃ t, exec .startCommand (asked ready 0x10 []) = .next t ∧ (∀ straps, Instr.startCommand ≠ .powerOnReset straps) ∧
      ¬(Instr.startCommand = .transmissionEnd ∧
        ∃ r, (asked ready 0x10 []).ltx.lane = .own (.response r) ∧ r.resets ≠ none) ∧
      (asked ready 0x10 []).cmu.runState ≠ .measuring ∧ t.cmu.runState = .measuring :=
  ⟨_, rfl, fun _ => nofun, nofun, by decide, by decide +kernel⟩

/-- A ZERO collecting channel C0, with this many readings of this sum. -/
def zeroing (count : Nat) (sum : Int) : ZeroCollection :=
  { mask := 1, tag := 7, source := 1, counts := (Vector.replicate 12 0).set 0 count, sums := (Vector.replicate 12 0).set 0 sum
    timeoutMs := 2000 }

/-- The part with that ZERO. -/
def collecting (s : State) (count : Nat) (sum : Int) : State := s.withCal { s.cal with zero := .collecting (zeroing count sum) }

/-- Witness of TablesOfARunAreFixedOutsideStopped: a ZERO that goes on collecting in STOPPED, and a WRITE LIMITS refused for its
length in MEASURING. -/
theorem witness_tables_fixed :
    (let s := { collecting ready 0 0 with pending := [.idle] }
     ((∃ z, s.cal.zero = .collecting z) → s.cmu.runState = .stopped) ∧
      ∃ t, step s = .next t ∧ ∃ z, t.cal.zero = .collecting z) ∧
    (∃ t, exec .writeLimits (asked running 0x48 []) = .next t) ∧ (asked running 0x48 []).cmu.runState ≠ .stopped ∧
      (∀ z, (asked running 0x48 []).cal.zero ≠ .collecting z) ∧ (∀ straps, Instr.writeLimits ≠ .powerOnReset straps) ∧
      ¬(Instr.writeLimits = .transmissionEnd ∧
        ∃ r, (asked running 0x48 []).ltx.lane = .own (.response r) ∧ r.resets = some .cold) :=
  ⟨⟨fun _ => rfl, _, rfl, _, rfl⟩, ⟨_, rfl⟩, by decide, fun _ => nofun, fun _ => nofun, nofun⟩

/-! ### Rounding and the channel calibrator (00_scope.md, chapter 3) -/

/-- 00_scope.md, "Rounding": halves away from zero, truncation toward zero. -/
theorem test_rounding :
    nearest 9 2 = 5 ∧ nearest (-9) 2 = -5 ∧ nearest 735 2 = 368 ∧ trunc 7 2 = 3 ∧ trunc (-7) 2 = -3 ∧ isqrt 15 = 3 ∧
      isqrt 16 = 4 ∧ isqrt 0 = 0 ∧ clamp 9 (-5) 5 = 5 := by decide

/-- Witness of RoundingFollowsTheManual. -/
theorem witness_rounding : (0 : Int) < 2 ∧ 2 * |(9 : Int) - 2 * nearest 9 2| = 2 ∧ (-5 : Int) ≤ 5 ∧ (6 : Int) > 5 ∧
    (-6 : Int) < -5 := by decide

/-- A channel entry. -/
def channel (enabled : Bool) (gain offset : Int) : ChannelEntry :=
  { enabled := enabled, gain := gain, offset := offset, inertial := false }

/-- The channel table of the worked example "calibrating one frame". -/
def exampleChannels : Vector ChannelEntry 12 :=
  (((((((Vector.replicate 12 ChannelEntry.default).set 0 (channel true 20480 200)).set 1 (channel true 20480 0)).set 2
    (channel true 8192 0)).set 3 (channel true 20480 (-10000))).set 4 (channel true (-16384) 0)).set 6
    (channel false 16384 0)).set 7 (channel true 16384 50)

/-- The readings of that example. -/
def exampleEntry : SensorEntry :=
  { sensor 61001 none false with
    raw := #v[12000, -5, 3, 30000, 1000, 4000, 700, -1950, 0, 0, 0, 0], sensorValid := 0b111111011111 }

/-- That example: C0 14750, C1 -6, C2 2, C3 limited, C4 -1000, C5 and C6 invalid, C7 -2000. -/
theorem test_frameTake :
    let s := { ready with
      lrx := { ready.lrx with intake := [exampleEntry] }, cal := { ready.cal with channels := exampleChannels } }
    let t := after .frameTake s
    t.lrx.intake = [] ∧
      t.cal.held.map (fun f => f.channels.toList.take 8) = some
        [{ value := 14750, valid := true, saturated := false }, { value := -6, valid := true, saturated := false },
         { value := 2, valid := true, saturated := false }, { value := 32767, valid := true, saturated := true },
         { value := -1000, valid := true, saturated := false }, .invalid, .invalid,
         { value := -2000, valid := true, saturated := false }] := by decide +kernel

/-- Witness of FrameTakeCalibratesTheHeadEntry. -/
theorem witness_frameTake :
    let s := ready.withLrx { ready.lrx with intake := [exampleEntry] }
    ready.lrx.intake = [] ∧ s.lrx.intake = exampleEntry :: [] ∧ s.cal.held = none ∧ ∀ z, s.cal.zero ≠ .collecting z :=
  ⟨rfl, rfl, rfl, fun _ => nofun⟩

/-- R42, R196: channel 11, enabled, gain -16384, offset 50, not inertial; channel 12 does not exist. -/
theorem test_writeChannel :
    (after .writeChannel (asked ready 0x30 [11, 1, 0xC0, 0x00, 0, 50, 0])).cal.channels[(11 : Fin 12)] = channel true (-16384) 50 ∧
      reply (after .writeChannel (asked ready 0x30 [12, 1, 0xC0, 0x00, 0, 50, 0])) = some (.badArg, []) := by decide +kernel

/-- R43, R196: the entry, and no last reading yet. -/
theorem test_readChannel :
    reply (after .readChannel (asked ready 0x31 [0])) = some (.ok, [1, 0x40, 0, 0, 0, 0, 0, 0, 0, 0, 0, 0, 0]) := by
  decide +kernel

/-- Witness of ChannelEntriesAreWrittenAndRead: channels 11 and 12, flags 1 and 2, a channel being zeroed and one that is not, and
a last reading present and absent. -/
theorem witness_channels :
    (∀ args, (asked ready 0x30 args).CanTake (commandEntry 1 false 0x30 7 args) [] ∧
      (asked (collecting ready 0 0) 0x30 args).CanTake (commandEntry 1 false 0x30 7 args) [] ∧
      (asked ready 0x31 args).CanTake (commandEntry 1 false 0x31 7 args) []) ∧ ready.cmu.runState = .stopped ∧
      (11 < 12 ∧ 12 ≤ 12 ∧ 1 < 2 ∧ 2 ≤ 2 ∧ (-32768 : Int) ≤ 32767) ∧
      ((collecting ready 0 0).cal.zero = .collecting (zeroing 0 0) ∧ (zeroing 0 0).mask.getLsbD 0 = true ∧
        (zeroing 0 0).mask.getLsbD 11 = false) ∧
      ready.cal.lastReading[0] = none ∧
      ((Vector.replicate 12 (none : Option Reading)).set 11 (some { raw := 5, quantity := .invalid }))[11] =
        some { raw := 5, quantity := .invalid } :=
  ⟨fun _ => ⟨asked_canTake _ _ _ rfl (by decide), asked_canTake _ _ _ rfl (by decide), asked_canTake _ _ _ rfl (by decide)⟩, rfl,
    by decide, ⟨rfl, rfl, rfl⟩, rfl, rfl⟩

/-- R49: ZERO of C0 begins to collect with no answer yet. -/
theorem test_zero :
    (after .zero (asked ready 0x32 [0, 1])).cal.zero = .collecting (zeroing 0 0) ∧
      (after .zero (asked ready 0x32 [0, 1])).ltx.responses = [] ∧
      (reply (after .zero (asked ready 0x32 [0x10, 0]))).map Prod.fst = some .badArg := by decide +kernel

/-- Witness of ZeroIsRefusedAtOnceOrCollects: a wrong length, MEASURING, a ZERO already there, the masks 0, 4,095 and 4,096, a
disabled channel, and an accepted mask. -/
theorem witness_zero :
    (∀ args, (asked ready 0x32 args).CanTake (commandEntry 1 false 0x32 7 args) [] ∧
      (asked running 0x32 args).CanTake (commandEntry 1 false 0x32 7 args) [] ∧
      (asked (collecting ready 0 0) 0x32 args).CanTake (commandEntry 1 false 0x32 7 args) []) ∧ [(1 : Octet)].length ≠ 2 ∧
      running.cmu.runState ≠ .stopped ∧ (collecting ready 0 0).cal.zero ≠ .idle ∧ ready.cal.zero = .idle ∧
      4096 ≤ (4096 : Half).toNat ∧ ¬4096 ≤ (4095 : Half).toNat ∧ (4095 : Half) ≠ 0 ∧
      (∀ i : Fin 12, (ready.cal.channels[i]).enabled = true) ∧
      ((64 : Half).getLsbD 6 = true ∧ (exampleChannels[(6 : Fin 12)]).enabled = false) :=
  ⟨fun _ => ⟨asked_canTake _ _ _ rfl (by decide), asked_canTake _ _ _ rfl (by decide), asked_canTake _ _ _ rfl (by decide)⟩,
    by decide, by decide, by decide, rfl, by decide, by decide, by decide, by decide +kernel, by decide +kernel⟩

/-- The worked example "a ZERO that completes", on C0 alone: 63 readings sum to 6,400 and the last brings 6,432 = 64 times
100.5, so the new offset is 101. -/
theorem test_zero_completes :
    let s := (collecting ready 63 6400).withLrx { ready.lrx with
      intake := [{ sensor 1 none false with raw := (Vector.replicate 12 0).set 0 32, sensorValid := 1 }] }
    let t := after .frameTake s
    t.cal.zero = .idle ∧ (t.cal.channels[(0 : Fin 12)]).offset = 101 ∧
      (reply t).map (fun r => (r.1, field r.2 2 2, field r.2 4 1, field r.2 16 2)) = some (.ok, 1, 64, 101) := by decide +kernel

/-- The worked example "a ZERO that times out": 63 readings complete nothing, and the offset stays. -/
theorem test_zeroTimeout :
    let t := after .zeroTimeout (collecting ready 63 6400)
    t.cal.zero = .idle ∧ (t.cal.channels[(0 : Fin 12)]).offset = 0 ∧
      (reply t).map (fun r => (r.1, field r.2 2 2, field r.2 4 1)) = some (.timeout, 0, 63) := by decide +kernel

/-- The report of a ZERO that waits for room. -/
def waitingReport : ZeroReport :=
  { mask := 1, tag := 7, source := 1, status := .timeout, completed := 0, counts := (Vector.replicate 12 0).set 0 63
    offsets := Vector.replicate 12 0 }

/-- R54: with a full response queue the report waits; it is placed once a place is free. -/
theorem test_zeroResponsePlaced :
    (after .zeroTimeout (collecting crowded 63 6400)).cal.zero = .reporting waitingReport ∧
      (let t := after .zeroResponsePlaced (ready.withCal { ready.cal with zero := .reporting waitingReport })
       t.cal.zero = .idle ∧ t.ltx.responses = [waitingReport.response]) := by decide +kernel

/-- Witness of ZeroEndsWithItsOffsetsAndItsResponse: counts 63 and 64 of a masked channel, a valid reading, and three and four
responses waiting. -/
theorem witness_zero_ends :
    let s := (collecting ready 63 6400).withLrx { ready.lrx with intake := [{ sensor 1 none false with sensorValid := 1 }] }
    (s.cal.zero = .collecting (zeroing 63 6400) ∧ s.lrx.intake = [{ sensor 1 none false with sensorValid := 1 }] ∧
      s.cal.held = none ∧ (zeroing 63 6400).mask.getLsbD 0 = true ∧ (zeroing 63 6400).counts[(0 : Fin 12)] < 64 ∧
      64 ≤ (zeroing 64 6400).counts[(0 : Fin 12)]) ∧
      (∀ z, ready.cal.zero ≠ .collecting z) ∧
      (ready.withCal { ready.cal with zero := .reporting waitingReport }).cal.zero = .reporting waitingReport ∧
      (ready.ltx.responses ++ List.replicate 3 someResponse).length < 4 ∧ 4 ≤ crowded.ltx.responses.length ∧
      (asked (collecting ready 0 0) 0x10 []).CanTake (commandEntry 1 false 0x10 7 []) [] ∧
      (collecting ready 0 0).cal.zero = .collecting (zeroing 0 0) ∧ (collecting ready 0 0).cmu.runState = .stopped :=
  ⟨⟨rfl, rfl, rfl, rfl, by decide, by decide⟩, fun _ => nofun, rfl, by decide, by decide,
    asked_canTake _ _ _ rfl (by decide), rfl, rfl⟩

/-! ### The odometry unit (chapter 4) -/

/-- A valid channel value that is not saturated. -/
def counts (v : Int) : Quantity := { value := v, valid := true, saturated := false }

/-- A frame record whose only valid channel is C0. -/
def frame (tach timestamp : Quad) (sequence : Half) (c0 : Int) : CalFrame :=
  { tach := tach, timestamp := timestamp, sequence := sequence, markId := none, overrun := false
    channels := (Vector.replicate 12 .invalid).set 0 (counts c0) }

/-- Frames A to D and F of the worked examples "interpolation and speed" and "gaps". -/
def frameA : CalFrame := frame 1000 1000000 400 14750
def frameB : CalFrame := frame 1015 1000500 401 14861
def frameC : CalFrame := frame 1215 1007200 403 14700
def frameD : CalFrame := frame 1715 1023900 404 14700
def frameE : CalFrame := frame 1725 1103900 405 14700
def frameF : CalFrame := frame 61725 1108900 406 14700

/-- The part of those examples: pulse 2,750 µm, run number 2, ODO as given, `base` held and `new` waiting. -/
def driving (o : Odo) (base new : CalFrame) : State :=
  { running with
    cmu := { running.cmu with runNumber := 2, config := { running.cmu.config with pulseUm := 2750 } }
    cal := { running.cal with held := some new }
    odo := { o with base := some base } }

/-- ODO before frame B. -/
def odoBeforeB : Odo :=
  { running.odo with d := 4230000, n := 4250000, s := 700, vf := 2900, lowSpeed := false }

/-- The samples handed to LOC: index, sample point, C0, SEQ_GAP and speed. -/
def samplesOf (l : List OdoItem) : List (Nat × Nat × Int × Bool × Nat) :=
  l.filterMap fun
    | .sample x => some (x.index.toNat, x.point, (x.channels[(0 : Fin 12)]).value, x.seqGap, x.speed)
    | .mark _ _ | .gap _ => none

/-- The worked example "interpolation and speed", frame B. -/
theorem test_frameEvent_one_sample :
    let t := after .frameEvent (driving odoBeforeB frameA frameB)
    t.odo.d = 4271250 ∧ t.odo.vf = 2908 ∧ t.odo.lowSpeed = false ∧ t.odo.n = 4500000 ∧ t.odo.s = 701 ∧
      t.odo.base = some frameB ∧ samplesOf t.links.odoToLoc = [(700, 4250000, 14804, false, 2908)] := by decide +kernel

/-- The worked example "reversing and paying back", frame F4: 1,500,000 µm of rollback are paid back first. -/
theorem test_frameEvent_four_samples :
    let s := driving { running.odo with d := 10000000, r := 1500000, n := 10100000, s := 120, lowSpeed := false }
      (frame 1000 0 1 2000) (frame 2000 5000 2 2400)
    let t := after .frameEvent (s.withCmu { s.cmu with config := running.cmu.config })
    t.odo.d = 11000000 ∧ t.odo.r = 0 ∧ t.odo.n = 11100000 ∧ t.odo.s = 124 ∧
      (samplesOf t.links.odoToLoc).map (fun x => (x.1, x.2.1, x.2.2.1)) =
        [(120, 10100000, 2040), (121, 10350000, 2140), (122, 10600000, 2240), (123, 10850000, 2340)] := by decide +kernel

/-- The worked example "gaps", frame D: five grid points are a declared gap. -/
theorem test_declared_gap :
    let o := { odoBeforeB with d := 4821250, n := 5000000, s := 703, vf := 2913 }
    let t := after .frameEvent (driving o frameC frameD)
    t.odo.d = 6196250 ∧ t.odo.vf = 2919 ∧ t.odo.n = 6250000 ∧ t.odo.s = 708 ∧ t.links.odoToLoc = [.gap 2] := by
  decide +kernel

/-- That example, frame F: a tachometer jump moves nothing and leaves gap-pending and the tach-fault flag. -/
theorem test_tachometer_jump :
    let o := { odoBeforeB with d := 6223750, n := 6250000, s := 708, vf := 2556 }
    let t := after .frameEvent (driving o frameE frameF)
    t.odo.d = 6223750 ∧ t.odo.vf = 2556 ∧ t.odo.gapPending = true ∧ t.odo.tachFault = true ∧ t.links.odoToLoc = [] ∧
      t.odo.base = some frameF := by decide +kernel

/-- R65, R66: a set-back that reaches 200 m asks for the suspension. -/
theorem test_reverse_limit :
    let s := driving { odoBeforeB with r := 199999000 } frameB { frameA with tach := 1014 }
    (after .frameEvent s).odo.r = 200000000 ∧ (after .frameEvent s).links.reverseRequest = some 2 ∧
      (after .frameEvent s).odo.d = 4230000 := by decide +kernel

/-- That example, the silence. -/
theorem test_silenceExpiry :
    let s := running.withOdo { running.odo with silenceTimer := some 50 }
    (after .silenceExpiry s).odo.silenceFlag = true ∧ (after .silenceExpiry s).odo.gapPending = true ∧
      (after .silenceExpiry s).odo.silenceTimer = none ∧ (after .silenceExpiry ready).odo.silenceFlag = false := by
  decide +kernel

/-- Witness of TheFirstFrameIsTheBaseAndSilenceExpires. -/
theorem witness_first_frame :
    let s := ready.withCal { ready.cal with held := some frameA }
    s.links.odoToLoc = [] ∧ s.cal.held = some frameA ∧ s.odo.base = none ∧
      (ready.withLinks { ready.links with odoToLoc := [.gap 1] }).links.odoToLoc ≠ [] ∧ ready.cal.held = none ∧
      ready.odo.silenceTimer = none ∧ (ready.withOdo { ready.odo with silenceTimer := some 50 }).odo.silenceTimer ≠ none := by
  decide +kernel

/-- Witness of FrameEventFollowsSpeedAndMotion: no jump at 100,000,000 µm and a jump one pulse beyond, no time between two
frames and some, a reverse and a forward frame, and a rollback equal to the distance and below it. -/
theorem witness_motion :
    (driving odoBeforeB frameA frameB).links.odoToLoc = [] ∧ (driving odoBeforeB frameA frameB).cal.held = some frameB ∧
      (driving odoBeforeB frameA frameB).odo.base = some frameA ∧
      ((40000 : Quad).toInt.natAbs * 2500 = 100000000 ∧ 100000000 < (40001 : Quad).toInt.natAbs * 2500) ∧
      ((frameA.timestamp - frameA.timestamp).toNat = 0 ∧ 0 < (frameB.timestamp - frameA.timestamp).toNat) ∧
      ((frameA.tach - frameB.tach).toInt < 0 ∧ 0 ≤ (frameA.tach - frameA.tach).toInt) ∧
      ((frameB.tach - frameA.tach).toInt.natAbs * 2750 ≤ 41250 ∧ 41249 < (frameB.tach - frameA.tach).toInt.natAbs * 2750) := by
  decide +kernel

/-- R74: gap-pending waits through a standstill frame, and the first advance in MEASURING declares the gap and clears it. -/
theorem test_gap_pending_waits :
    let o := { odoBeforeB with gapPending := true }
    let s := driving o frameA frameA
    let t := driving o frameA frameB
    (after .frameEvent s).odo.gapPending = true ∧ (after .frameEvent s).odo.d = s.odo.d ∧ s.cmu.runState = .measuring ∧
      (after .frameEvent t).odo.gapPending = false ∧ t.odo.d < (after .frameEvent t).odo.d ∧
      (after .frameEvent t).links.odoToLoc = [.gap 2] := by decide +kernel

/-- Witness of GridPointsBecomeSamplesOrAGap: frame B in MEASURING advances D with no gap condition, a frame that advances
nothing, the gap conditions, and grid points at D and below it. -/
theorem witness_grid :
    (let s := driving odoBeforeB frameA frameB
     s.links.odoToLoc = [] ∧ s.cal.held = some frameB ∧ s.odo.base = some frameA ∧ s.cmu.runState = .measuring ∧
      s.odo.d < (after .frameEvent s).odo.d ∧
      ¬(s.odo.gapPending = true ∨ s.odo.silenceFlag = true ∨ 4 < (4271250 - 4250000) / 250000 + 1 ∨
        (s.odo.tachFault = true ∧ (frameA.overrun = true ∨ frameB.overrun = true)))) ∧
      (let s := driving odoBeforeB frameA frameA
       ¬(s.cmu.runState = .measuring ∧ s.odo.d < (after .frameEvent s).odo.d)) ∧
      (4 < (6196250 - 5000000) / 250000 + 1 ∧ ({ odoBeforeB with gapPending := true } : Odo).gapPending = true) ∧
      (∃ t, exec .frameEvent (driving odoBeforeB frameA frameB) = .next t) ∧
      ((interpolate (counts 0) (counts 7) 250000 0 250000).valid = true ∧ (0 < 250000 ∧ 250000 ≤ 250000) ∧
        (interpolate .invalid (counts 7) 1 0 250000).valid = false) :=
  ⟨by decide +kernel, by decide +kernel, by decide +kernel, ⟨_, rfl⟩, by decide +kernel⟩

/-! ### The location unit (chapter 5) -/

/-- LOC of the worked example "a mark correction across a section boundary", with the last two sections it names. -/
def exampleLoc : Loc :=
  { located := true, offset := 44954000, epoch := 7, holdoff := some { id := 3990, measured := 12100000 }
    marks := [(4021, { position := 57300000, window := 20000 }), (4022, { position := 57400000, window := 500 })]
    sections :=
      [{ start := 57000000, finish := 57299800, band := 3, suppress := 0, cant := none },
       { start := 57299800, finish := 58200000, band := 4, suppress := 0x20, cant := some 12000 }]
    cursor := some 0 }

/-- The part with that LOC and one item of ODO's waiting. -/
def located (l : Loc) (x : OdoItem) : State := { running with loc := l, links := { running.links with odoToLoc := [x] } }

/-- LOC of that example after mark 4021. -/
def markedLoc : Loc :=
  { exampleLoc with offset := 44954322, epoch := 8, holdoff := some { id := 4021, measured := 12345678 }, cursor := none }

/-- That example, mark 4021: δ is 322. -/
theorem test_markHandoff_applied :
    let t := after .markHandoff (located exampleLoc (.mark 4021 12345678))
    t.loc = markedLoc ∧ t.links.odoToLoc = [] ∧
      t.ltx.locations = [{ kind := .markApplied 4021 { position := 57300000, window := 20000 } 322, measured := 12345678,
                           offset := 44954322, epoch := 8, located := true, lost := 0 }] := by decide +kernel

/-- That example, the repeat of mark 4021 and mark 4022, rejected with δ 678. -/
theorem test_markHandoff_held_off_and_rejected :
    (after .markHandoff (located markedLoc (.mark 4021 12350000))).loc = markedLoc ∧
      (after .markHandoff (located markedLoc (.mark 4021 12350000))).ltx.locations = [] ∧
      (after .markHandoff (located markedLoc (.mark 4022 12445000))).loc = markedLoc ∧
      (after .markHandoff (located markedLoc (.mark 4022 12445000))).ltx.locations.map LocationRecord.kind =
        [.markRejected 4022 { position := 57400000, window := 500 } 678 .window] := by decide +kernel

/-- The sample LOC has handed on. -/
def handedOn (s : State) : Option LocatedSample :=
  match s.links.locToMse with
  | some (.sample y) => some y
  | some (.gap _) | none => none

/-- That example, the last sample before the mark and the sample after it. -/
theorem test_locSample :
    let t := after .locSample (located exampleLoc (.sample { someSample with point := 12345250000 }))
    let u := after .locSample (located markedLoc (.sample { someSample with point := 12345500000 }))
    (handedOn t).map (fun y => (y.position, y.band, y.epoch)) = some (57299250, 3, 7) ∧
      (handedOn u).map (fun y => (y.position, y.band, y.epoch)) = some (57299822, 4, 8) ∧
      (handedOn u).map (fun y => (y.suppress, y.cant)) = some (0x20, some 12000) ∧ u.loc.cursor = some 1 := by
  decide +kernel

/-- A section with neither mask nor cant. -/
def plainSection (start finish : Int) (band : Fin 5) : SectionEntry :=
  { start := start, finish := finish, band := band, suppress := 0, cant := none }

/-- LOC of the worked example "retirement, appending and a backward correction". -/
def longLoc : Loc :=
  { exampleLoc with
    offset := 60000000
    sections := [plainSection 100000000 101500000 2, plainSection 101500000 102000000 1, plainSection 102000000 104000000 2,
                 plainSection 104500000 106000000 3]
    cursor := some 2 }

/-- That example, the sample at L = 103,500,000: A is retired and the cursor moves to 1. -/
theorem test_locSample_retires :
    let t := after .locSample (located longLoc (.sample { someSample with point := 43500000000 }))
    t.loc.sections = longLoc.sections.tail ∧ t.loc.cursor = some 1 ∧ (handedOn t).map (fun y => (y.position, y.band)) = some (103500000, 2) := by
  decide +kernel

/-- R85: a gap notice of the run goes on to MSE. -/
theorem test_locGapNotice :
    (after .locGapNotice (located exampleLoc (.gap 1))).links.locToMse = some (.gap 1) ∧
      (after .locGapNotice (located exampleLoc (.gap 1))).links.odoToLoc = [] := by decide +kernel

/-- That example, the backward correction: SET POSITION 101,900,900 at an odometer of 44,600,900 mm gives δ -2,700,000. -/
theorem test_setPosition :
    let s := { running with loc := longLoc, odo := { running.odo with d := 44600900000 } }
    let t := after .setPosition (asked s 0x14 (octetsOf 4 101900900))
    t.loc.offset = 57300000 ∧ t.loc.epoch = 8 ∧ t.loc.cursor = none ∧
      reply t = some (.ok, octetsOf 4 44600900 ++ octetsOf 4 57300000 ++ octetsOf 4 (-2700000) ++ [8]) ∧
      t.ltx.locations.map LocationRecord.kind = [.positionSet (-2700000)] := by decide +kernel

/-- Witness of SetPositionAnchorsTheOffset: the offset at either end of its range and one past it. -/
theorem witness_setPosition (p : Int) :
    (asked ready 0x14 (octetsOf 4 p)).CanTake (commandEntry 1 false 0x14 7 (octetsOf 4 p)) [] ∧
      (-2147483648 ≤ (2147483647 : Int) - 0 ∧ (2147483647 : Int) - 0 ≤ 2147483647) ∧
      (-2147483648 : Int) - (({ ready.odo with d := 1000 } : Odo).d / 1000 : Nat) < -2147483648 :=
  ⟨asked_canTake _ _ _ rfl (by decide), by decide, by decide⟩

theorem test_writeMark :
    let t := after .writeMark (asked running 0x50 ([0x0F, 0xB5] ++ octetsOf 4 57300000 ++ octetsOf 2 20000))
    markEntry? t.loc.marks 4021 = some { position := 57300000, window := 20000 } ∧ reply t = some (.ok, [0, 1]) := by
  decide +kernel

theorem test_deleteMark :
    let s := running.withLoc exampleLoc
    (after .deleteMark (asked s 0x51 (octetsOf 2 4021))).loc.marks = exampleLoc.marks.tail ∧
      reply (after .deleteMark (asked s 0x51 (octetsOf 2 4021))) = some (.ok, [0, 1]) ∧
      reply (after .deleteMark (asked s 0x51 (octetsOf 2 4020))) = some (.notFound, []) := by decide +kernel

theorem test_clearMarks :
    (after .clearMarks (asked (running.withLoc exampleLoc) 0x52 [])).loc.marks = [] ∧
      reply (after .clearMarks (asked (running.withLoc exampleLoc) 0x52 [])) = some (.ok, [0, 0]) := by decide +kernel

theorem test_readMark :
    reply (after .readMark (asked (running.withLoc exampleLoc) 0x53 (octetsOf 2 4022))) =
        some (.ok, octetsOf 4 57400000 ++ octetsOf 2 500 ++ [0, 2]) ∧
      reply (after .readMark (asked running 0x53 [0, 0])) = some (.badArg, []) := by decide +kernel

theorem exampleLoc_lawful : exampleLoc.Lawful :=
  ⟨by decide, by decide, by decide, by simp [exampleLoc, SectionEntry.Precedes], by decide, by decide, by decide, by decide⟩

/-- A full mark table: ids 1 to 256. -/
def fullMarks : List (Nat × MarkEntry) := (List.range 256).map fun i => (i + 1, { position := 0, window := 0 })

theorem fullMarks_lawful : ({ Loc.cold with marks := fullMarks } : Loc).Lawful :=
  ⟨by decide +kernel, by decide +kernel, by decide +kernel, by simp [Loc.cold], by simp [Loc.cold], by decide, by decide, by decide⟩

/-- Witness of MarkTableFollowsItsCommands: id 0, ids held and not held, and a full table. -/
theorem witness_marks :
    (∀ (s : State) code args, s = ready ∨ s = running.withLoc exampleLoc ∨ s = running.withLoc { Loc.cold with marks := fullMarks } →
      (asked s code args).CanTake (commandEntry 1 false code 7 args) []) ∧
      exampleLoc.Lawful ∧ ({ Loc.cold with marks := fullMarks } : Loc).Lawful ∧
      markEntry? exampleLoc.marks 4021 = some { position := 57300000, window := 20000 } ∧
      markEntry? exampleLoc.marks 65535 = none ∧ exampleLoc.marks.length < 256 ∧ markEntry? fullMarks 257 = none ∧
      256 ≤ fullMarks.length ∧ markEntry? fullMarks 256 ≠ none := by
  refine ⟨?_, exampleLoc_lawful, fullMarks_lawful, by decide, by decide, by decide, by decide +kernel, by decide +kernel,
    by decide +kernel⟩
  rintro s code args (rfl | rfl | rfl) <;> exact asked_canTake _ _ _ rfl (by decide)

/-- Witness of MarkHandoffsCorrectTheOffset: MSE has not taken the last item; held off at 10,000 mm and not at 10,001;
unknown; accepted and rejected at the window; and an offset that does not fit. -/
theorem witness_handoffs :
    ((running.withLinks { running.links with locToMse := some (.gap 1) }).links.locToMse ≠ none) ∧
      (located markedLoc (.mark 4021 12355678)).links.odoToLoc = .mark 4021 12355678 :: [] ∧
      (located markedLoc (.mark 4021 12355678)).links.locToMse = none ∧
      ((∃ h, markedLoc.holdoff = some h ∧ h.id = 4021 ∧ 12355678 - h.measured ≤ 10000) ∧
        ¬∃ h, markedLoc.holdoff = some h ∧ h.id = 4021 ∧ 12355679 - h.measured ≤ 10000) ∧
      markEntry? markedLoc.marks 4023 = none ∧ markEntry? markedLoc.marks 4022 = some { position := 57400000, window := 500 } ∧
      ((57400000 - (12445178 + markedLoc.offset)).natAbs ≤ 500 ∧ ¬(57400000 - (12445177 + markedLoc.offset)).natAbs ≤ 500) ∧
      Loc.cold.located = false ∧ ¬((0 : Int) + (2147483647 - (-1)) ≤ 2147483647) := by
  refine ⟨by decide, rfl, rfl, ⟨⟨_, rfl, rfl, by decide⟩, ?_⟩, by decide, by decide, by decide, rfl, by decide⟩
  rintro ⟨h, he, _, hm⟩
  cases he
  exact absurd hm (by decide)

/-- That example: the append refused ORDER, and E appended. -/
theorem test_appendSection :
    let s := running.withLoc { longLoc with sections := longLoc.sections.drop 2, cursor := some 1 }
    let args := fun start : Int => octetsOf 4 start ++ octetsOf 4 107000000 ++ [4, 0, 0, 0, 0, 0, 0, 0]
    reply (after .appendSection (asked s 0x58 (args 105000000))) = some (.order, []) ∧
      reply (after .appendSection (asked s 0x58 (args 106000000))) = some (.ok, [0, 3]) ∧
      (after .appendSection (asked s 0x58 (args 106000000))).loc.sections.getLast? = some (plainSection 106000000 107000000 4) ∧
      (after .appendSection (asked s 0x58 (args 106000000))).loc.cursor = none := by decide +kernel

theorem test_clearSections :
    (after .clearSections (asked (running.withLoc longLoc) 0x59 [])).loc.sections = [] ∧
      (after .clearSections (asked (running.withLoc longLoc) 0x59 [])).loc.cursor = none ∧
      reply (after .clearSections (asked (running.withLoc longLoc) 0x59 [])) = some (.ok, [0, 0]) := by decide +kernel

/-- R102, R196: entry 1 of the two: the count, start, end, band, mask, cant present, cant. -/
theorem test_readSection :
    reply (after .readSection (asked (running.withLoc exampleLoc) 0x5A [0, 1])) =
        some (.ok, [0, 2] ++ octetsOf 4 57299800 ++ octetsOf 4 58200000 ++ [4, 0, 0x20, 1] ++ octetsOf 4 12000) ∧
      reply (after .readSection (asked running 0x5A [2, 0])) = some (.badArg, []) := by decide +kernel

/-- A section table of 512 entries. -/
def fullSections : List SectionEntry := (List.range 512).map fun i => plainSection i (i + 1) 0

/-- Witness of SectionTableFollowsItsCommands: an empty span, bands 4 and 5, presence octets 1 and 2, a start at the tail's end
and below it, a full table, and positions 511 and 512. -/
theorem witness_sections :
    (∀ (s : State) code args, s = running.withLoc longLoc ∨ s = running.withLoc { Loc.cold with sections := fullSections } →
      (asked s code args).CanTake (commandEntry 1 false code 7 args) []) ∧
      (¬(5 : Int) < 5 ∧ 4 < 5 ∧ ¬5 < 5 ∧ 1 < 2 ∧ ¬2 < 2 ∧ (1000000 : Int) ≤ 1000000 ∧ ¬(1000001 : Int) ≤ 1000000) ∧
      (longLoc.sections.getLast?.map SectionEntry.finish = some 106000000 ∧ (105999999 : Int) < 106000000) ∧
      fullSections.length = 512 ∧ longLoc.sections.length < 512 ∧ 511 ≤ 511 ∧ 511 < 512 ∧ fullSections[511]? = some (plainSection 511 512 0) ∧
      longLoc.sections.length ≤ 511 := by
  refine ⟨?_, by decide, by decide, by decide +kernel, by decide, by decide, by decide, by decide +kernel, by decide⟩
  rintro s code args (rfl | rfl) <;> exact asked_canTake _ _ _ rfl (by decide)

/-- Witness of SamplesTakeTheirPositionAndSection: located and not, a cursor and none, and MSE behind. -/
theorem witness_locSample :
    let s := located longLoc (.sample someSample)
    s.links.odoToLoc = .sample someSample :: [] ∧ s.links.locToMse = none ∧ s.cmu.runState = .measuring ∧
      someSample.run = s.cmu.runNumber ∧ longLoc.located = true ∧ longLoc.cursor = some 2 ∧ markedLoc.cursor = none ∧
      Loc.cold.located = false ∧ (located longLoc (.gap 1)).links.odoToLoc = .gap (located longLoc (.gap 1)).cmu.runNumber :: [] ∧
      (running.withLinks { running.links with locToMse := some (.gap 1) }).links.locToMse ≠ none := by decide +kernel

/-! ### The measure engine (chapter 6) -/

/-- A sample of the given index whose channels are as given. -/
def sampleOf (index : Quad) (lowSpeed : Bool) (cs : Vector Quantity 12) : Sample :=
  { someSample with index := index, lowSpeed := lowSpeed, channels := cs }

/-- The channels of the worked example "combining channels into parameters". -/
def exampleSample (lowSpeed : Bool) : Sample :=
  sampleOf 0 lowSpeed ((((((Vector.replicate 12 .invalid).set 0 (counts (-120))).set 1 (counts 85)).set 2 (counts 3)).set 3
    { counts 32767 with saturated := true }).set 7 (counts (-2000)) |>.set 8 (counts 700))

/-- A parameter entry from its terms and K. -/
def parameter (ts : List (Fin 12 × Int)) (k : Int) : ParameterEntry :=
  { terms := ts.map fun t => { channel := t.1, weight := t.2 }, k := k }

/-- A channel table in which C7 is inertial. -/
def inertialTable : Vector ChannelEntry 12 := (Vector.replicate 12 .default).set 7 { ChannelEntry.default with inertial := true }

/-- That example: P0, P2 (and with C2 = -3), P3 with LOW_SPEED clear and set, P4. -/
theorem test_parameters :
    (parameter [(0, 256), (1, 256)] 143500).compute inertialTable (exampleSample false) = counts 143465 ∧
      (parameter [(2, 384)] 0).compute inertialTable (exampleSample true) = counts 5 ∧
      (parameter [(0, 384)] 0).compute inertialTable (sampleOf 0 false (Vector.replicate 12 (counts (-3)))) = counts (-5) ∧
      (parameter [(7, 128), (8, 256)] 0).compute inertialTable (exampleSample false) = counts (-300) ∧
      (parameter [(7, 128), (8, 256)] 0).compute inertialTable (exampleSample true) = .invalid ∧
      (parameter [(3, 32767)] 0).compute inertialTable (exampleSample false) =
        { value := 1000000, valid := true, saturated := true } := by decide +kernel

/-- A history slot in which every parameter has this value. -/
def slotOf (index : Nat) (cant : Option Int) (q : Quantity) : Slot :=
  { index := BitVec.ofNat 32 index, position := 250 * index, unlocated := false, lowSpeed := false, seqGap := false, speed := 2500
    band := 0, suppress := 0, cant := cant, epoch := 4, parameters := Vector.replicate 10 q }

/-- A history that holds these slots. -/
def historyOf (l : List Slot) : Vector (Option Slot) 128 :=
  Vector.ofFn fun i : Fin 128 => l.find? fun t => t.index.toNat % 128 == i.val

/-- MSE of the worked example "rows around the start of a run and a gap", after sample 4. -/
def exampleMse : Mse :=
  { Mse.cold with
    parameters := Mse.cold.parameters.set 0 (parameter [(0, 256)] 0)
    measures := (Mse.cold.measures.set 0 (.direct 0)).set 1 (.chord 0 4)
    history := historyOf ([(0, 100), (1, 120), (2, 150), (3, 170), (4, 160)].map fun p => slotOf p.1 none (counts p.2))
    newest := some 4 }

/-- The part with that MSE, an alignment delay of 3, and a sample or gap notice waiting at MSE. -/
def measuringAt (x : Mse) (item : MseItem) : State :=
  { running with
    cmu := { running.cmu with config := { running.cmu.config with alignDelay := 3 } }
    mse := x
    links := { running.links with locToMse := some item } }

/-- A located sample. -/
def locatedAs (x : Sample) : LocatedSample := { someLocated with sample := x }

/-- The indices of the rows handed on, with measures M0 and M1. -/
def rowsOf (l : List RowItem) : List (Nat × Quantity × Quantity) :=
  l.filterMap fun
    | .row r => some (r.index.toNat, r.measures[(0 : Fin 16)], r.measures[(1 : Fin 16)])
    | .gap _ => none

/-- That example, sample 5: row 2 is formed with M0 150 and M1 20. -/
theorem test_sampleEvent :
    let t := after .sampleEvent (measuringAt exampleMse (.sample (locatedAs (sampleOf 5 false (Vector.replicate 12 (counts 140))))))
    rowsOf t.links.mseToExd = [(2, counts 150, counts 20)] ∧ rowsOf t.links.mseToLtx = [(2, counts 150, counts 20)] ∧
      t.mse.newest = some 5 ∧ t.links.locToMse = none := by decide +kernel

/-- That example, sample 10 after the gap: no row, for slot 7 is absent. -/
theorem test_sampleEvent_no_row :
    let t := after .sampleEvent (measuringAt exampleMse.clear (.sample (locatedAs (sampleOf 10 false (Vector.replicate 12 (counts 200))))))
    t.links.mseToExd = [] ∧ t.mse.newest = some 10 := by decide +kernel

/-- That example, the gap event. -/
theorem test_gapEvent :
    let t := after .gapEvent (measuringAt exampleMse (.gap 1))
    t.mse.newest = none ∧ t.mse.history[(4 : Fin 128)] = none ∧ t.links.mseToExd = [.gap 1] ∧ t.links.mseToStu = [.gap 1] ∧
      t.links.mseToLtx = [.gap 1] := by decide +kernel

/-- The worked examples "a chord at full length" (735 / 2 is 368) and a twist over the same three slots. -/
theorem test_chord_and_twist :
    let x := { Mse.cold with
      measures := (Mse.cold.measures.set 4 (.chord 3 40)).set 5 (.twist 3 40)
      history := historyOf [slotOf 1000 none (counts (-35)), slotOf 1020 none (counts 410), slotOf 1040 none (counts 120)] }
    x.measure 4 1020 none = counts 368 ∧ x.measure 5 1020 none = counts 155 ∧ x.measure 4 1040 none = .invalid := by decide +kernel

/-- MSE of the worked example "deviation with a halt group": one parameter value, with M8's baseline as given. -/
def deviating (q : Quantity) (b : Option Int) (cant : Option Int) : Mse :=
  { Mse.cold with
    measures := (Mse.cold.measures.set 8 (.deviation 3 6 1)).set 10 (.cantDeviation 5 8 0)
    baselines := Mse.cold.baselines.set 8 b
    history := historyOf [slotOf 100 cant q] }

/-- Detectors with M8 in this mode and the others QUIET. -/
def detectorsWith (mode : DetectorMode) : Vector Detector 16 := (Vector.replicate 16 (.cleared .quiet)).set 8 (.cleared mode)

/-- That example: row 100 of M8 (640, then 10,010) and of M10 (340, then seeded at 12,340), row 101 of M8 (690, held), row 102
(invalid, held) and row 104 (-117, then 10,016). -/
theorem test_deviation :
    (deviating (counts 10640) (some 10000) none).measure 8 100 none = counts 640 ∧
      (deviating (counts 10640) (some 10000) none).baselineAfter (detectorsWith .quiet) 8 100 = some 10010 ∧
      (deviating (counts 12340) none (some 12000)).measure 10 100 (some 12000) = counts 340 ∧
      (deviating (counts 12340) none (some 12000)).baselineAfter (detectorsWith .quiet) 10 100 = some 12340 ∧
      (deviating (counts 10700) (some 10010) none).measure 8 100 none = counts 690 ∧
      (deviating (counts 10700) (some 10010) none).baselineAfter (detectorsWith .active) 8 100 = some 10010 ∧
      (deviating .invalid (some 10010) none).measure 8 100 none = .invalid ∧
      (deviating .invalid (some 10010) none).baselineAfter (detectorsWith .active) 8 100 = some 10010 ∧
      (deviating (counts 9900) (some 10017) none).measure 8 100 none = counts (-117) ∧
      (deviating (counts 9900) (some 10017) none).baselineAfter (detectorsWith .quiet) 8 100 = some 10016 := by decide +kernel

/-- R106, R196: P0 of the worked example, and K past its range. -/
theorem test_writeParameter :
    let args := fun k : Int => [0, 2, 0, 1, 0, 1, 1, 0, 0, 0, 0] ++ octetsOf 4 k
    (after .writeParameter (asked ready 0x38 (args 143500))).mse.parameters[(0 : Fin 10)] = parameter [(0, 256), (1, 256)] 143500 ∧
      reply (after .writeParameter (asked ready 0x38 (args 1000001))) = some (.badArg, []) := by decide +kernel

/-- R107, R196: the entry and the value in the newest slot. -/
theorem test_readParameter :
    reply (after .readParameter (asked (running.withMse exampleMse) 0x39 [0])) =
        some (.ok, [1, 0, 1, 0, 0, 0, 0, 0] ++ [1, 0, 0, 0, 160, 1, 0]) ∧
      reply (after .readParameter (asked ready 0x39 [9])) = some (.ok, [0, 0, 0, 0, 0] ++ [0, 0, 0, 0, 0, 0, 0]) ∧
      reply (after .readParameter (asked ready 0x39 [10])) = some (.badArg, []) := by decide +kernel

/-- Witness of ParameterEntriesAreWrittenAndRead: parameters 9 and 10, three terms and four, channels 11 and 12, K at its limit and
past it, and a newest slot present and absent. -/
theorem witness_parameters :
    (∀ args, (asked ready 0x38 args).CanTake (commandEntry 1 false 0x38 7 args) [] ∧
      (asked ready 0x39 args).CanTake (commandEntry 1 false 0x39 7 args) []) ∧ ready.cmu.runState = .stopped ∧
      (let records : List (Nat × Int) := [(11, -32768), (0, 32767), (12, 0)]
       records.length = 3 ∧ (∀ r ∈ records, r.1 < 256 ∧ -32768 ≤ r.2 ∧ r.2 ≤ 32767) ∧ (∀ r ∈ records.take 2, r.1 < 12) ∧
        ¬∀ r ∈ records.take 3, r.1 < 12) ∧
      (9 < 10 ∧ 10 ≤ 10 ∧ 3 ≤ 3 ∧ ¬4 ≤ 3 ∧ (-1000000 : Int) ≤ -1000000 ∧ ¬(1000001 : Int) ≤ 1000000) ∧ ready.mse.newest = none ∧
      (exampleMse.newest = some 4 ∧ exampleMse.history[slotNumber 4] = some (slotOf 4 none (counts 160)) ∧
        (slotOf 4 none (counts 160)).index = 4) :=
  ⟨fun _ => ⟨asked_canTake _ _ _ rfl (by decide), asked_canTake _ _ _ rfl (by decide)⟩, rfl, by decide, by decide, rfl,
    by decide +kernel⟩

/-- R117, R196: a CHORD of 40; a half length of 33 exceeds the alignment delay of 32. -/
theorem test_writeMeasure :
    (after .writeMeasure (asked ready 0x40 [4, 2, 3, 40, 0, 0])).mse.measures[(4 : Fin 16)] = .chord 3 40 ∧
      reply (after .writeMeasure (asked ready 0x40 [4, 2, 3, 66, 0, 0])) = some (.badArg, []) := by decide +kernel

/-- R118, R196: a CHORD, and a DEVIATION with its baseline. -/
theorem test_readMeasure :
    reply (after .readMeasure (asked (running.withMse exampleMse) 0x41 [1])) = some (.ok, [2, 0, 4, 0, 0]) ∧
      reply (after .readMeasure (asked (running.withMse (deviating .invalid (some 10010) none)) 0x41 [8])) =
        some (.ok, [4, 3, 0, 6, 1, 1] ++ octetsOf 4 10010) := by decide +kernel

/-- R127: only the deviation measures of the mask are unseeded and answered. -/
theorem test_rebase :
    let t := after .rebase (asked (running.withMse (deviating .invalid (some 10010) none)) 0x42 [0x01, 0x03])
    t.mse.baselines[(8 : Fin 16)] = none ∧ reply t = some (.ok, [0x01, 0]) := by decide +kernel

/-- Witness of MeasureEntriesAreWrittenReadAndRebased: measures 15 and 16, kinds 5 and 6, lengths 2, 64, 66 and 3, β 4, 15 and 16, and
halt groups 4 and 5. -/
theorem witness_measures (mask : Half) :
    (∀ args, (asked ready 0x40 args).CanTake (commandEntry 1 false 0x40 7 args) [] ∧
      (asked ready 0x41 args).CanTake (commandEntry 1 false 0x41 7 args) []) ∧
      (asked ready 0x42 (octetsOf 2 mask.toNat)).CanTake (commandEntry 1 false 0x42 7 (octetsOf 2 mask.toNat)) [] ∧
      ready.cmu.runState = .stopped ∧ (15 < 16 ∧ 16 ≤ 16 ∧ 5 ≤ 5 ∧ ¬6 ≤ 5 ∧ 9 < 10 ∧ ¬10 < 10) ∧
      (2 % 2 = 0 ∧ 64 / 2 ≤ ready.cmu.config.alignDelay ∧ ¬66 / 2 ≤ ready.cmu.config.alignDelay ∧ 3 % 2 ≠ 0) ∧
      (4 ≤ 4 ∧ 15 ≤ 15 ∧ ¬16 ≤ 15 ∧ 4 ≤ 4 ∧ ¬5 ≤ 4) :=
  ⟨fun _ => ⟨asked_canTake _ _ _ rfl (by decide), asked_canTake _ _ _ rfl (by decide)⟩, asked_canTake _ _ _ rfl (by decide), rfl,
    by decide, by decide, by decide⟩

/-- Witness of SampleEventsWriteHistoryAndFormRows: an output index below 0, a slot absent and a slot found at the delay itself, a
gap notice, and a row not yet taken. -/
theorem witness_sampleEvent :
    let s := measuringAt exampleMse (.sample (locatedAs (sampleOf 5 false (Vector.replicate 12 (counts 140)))))
    (s.links.locToMse = some (.sample (locatedAs (sampleOf 5 false (Vector.replicate 12 (counts 140))))) ∧
      s.links.rowsTaken = true ∧ s.cmu.runState = .measuring ∧
      (locatedAs (sampleOf 5 false (Vector.replicate 12 (counts 140)))).sample.run = s.cmu.runNumber) ∧
      ((2 : Quad).toNat < s.cmu.config.alignDelay ∧ s.cmu.config.alignDelay ≤ (3 : Quad).toNat) ∧
      exampleMse.history[slotNumber ((3 : Quad).toNat - 3)] = some (slotOf 0 none (counts 100)) ∧
      (slotOf 0 none (counts 100)).index.toNat = (3 : Quad).toNat - 3 ∧ exampleMse.clear.history[slotNumber 7] = none ∧
      (measuringAt exampleMse (.gap 1)).links.locToMse = some (.gap (measuringAt exampleMse (.gap 1)).cmu.runNumber) ∧
      .row someRow ∈ (staleRows (.row someRow)).links.mseToExd := by decide +kernel

/-- Witness of MeasuresAndBaselinesFollowTheirRules: valid and invalid terms, no terms, each measure kind with its slots present and
absent, references of both kinds, and a halted and a running group. -/
theorem witness_values :
    ((parameter [(0, 256), (1, 256)] 143500).terms ≠ [] ∧ ParameterEntry.default.terms = [] ∧
      (∀ t ∈ (parameter [(0, 256), (1, 256)] 143500).terms, ((exampleSample false).channels[t.channel]).valid = true) ∧
      ((exampleSample true).channels[(7 : Fin 12)]).valid = true ∧ (inertialTable[(7 : Fin 12)]).inertial = true ∧
      (exampleSample true).lowSpeed = true) ∧
      (exampleMse.read 0 2 = some (counts 150) ∧ exampleMse.read 0 0 = some (counts 100) ∧ exampleMse.read 0 4 = some (counts 160) ∧
        exampleMse.read 0 (-1) = none ∧ exampleMse.measures[(0 : Fin 16)] = .direct 0 ∧
        exampleMse.measures[(1 : Fin 16)] = .chord 0 4 ∧ exampleMse.measures[(2 : Fin 16)] = .disabled) ∧
      ({ exampleMse with measures := exampleMse.measures.set 1 (.twist 0 4) } : Mse).measures[(1 : Fin 16)] = .twist 0 4 ∧
      (let x := deviating (counts 10640) (some 10000) none
       x.measures[(8 : Fin 16)] = .deviation 3 6 1 ∧ x.measures[(10 : Fin 16)] = .cantDeviation 5 8 0 ∧
        x.read 3 100 = some (counts 10640) ∧ x.baselines[(8 : Fin 16)] = some 10000 ∧ x.baselines[(10 : Fin 16)] = none ∧
        (x.measures[(8 : Fin 16)]).haltGroup? = some 1 ∧ ((detectorsWith .active)[(8 : Fin 16)]).mode = .active ∧
        (∀ n : Fin 16, ((detectorsWith .quiet)[n]).mode = .quiet)) ∧
      (exampleMse.measures[(0 : Fin 16)]).haltGroup? = none := by decide +kernel

/-! ### Exceedance detection (chapter 7) -/

/-- The limit set of M3 in the worked example "a three-level exceedance". -/
def limitsM3 : LimitSet :=
  { enter1 := 1000, enter2 := 1500, enter3 := 2200, h := 200, sign := .both, e := 2, x := 3, maxLength := 0 }

/-- R130, R196: that limit set written for band 2; a set with H at enter[1] is refused. -/
theorem test_writeLimits :
    let args := fun h : Nat => [2, 3] ++ octetsOf 4 1000 ++ octetsOf 4 1500 ++ octetsOf 4 2200 ++ octetsOf 4 h ++ [0, 2, 3, 0, 0]
    (after .writeLimits (asked running 0x48 (args 200))).exd.limitSet 2 3 = limitsM3 ∧
      reply (after .writeLimits (asked running 0x48 (args 1000))) = some (.badTable, []) := by decide +kernel

/-- R131, R196: that limit set, its exit limits 800, 1,300 and 2,000, and a DISABLED detector. -/
theorem test_readLimits :
    reply (after .readLimits (asked (running.withExd (running.exd.setLimits 2 3 limitsM3)) 0x49 [2, 3])) =
      some (.ok, octetsOf 4 1000 ++ octetsOf 4 1500 ++ octetsOf 4 2200 ++ octetsOf 4 200 ++ [0, 2, 3, 0, 0] ++ octetsOf 4 800 ++
        octetsOf 4 1300 ++ octetsOf 4 2000 ++ [0, 0, 0, 0]) := by decide +kernel

/-- Witness of LimitSetsAreCheckedThenReplaced: bands 4 and 5, measures 15 and 16, limits at 1,000,000 and past it, E and X at 1 and
15, sign modes 2 and 3, and the consistency rules met and broken at their boundaries. -/
theorem witness_limits :
    (∀ args, (asked running 0x48 args).CanTake (commandEntry 1 false 0x48 7 args) [] ∧
      (asked running 0x49 args).CanTake (commandEntry 1 false 0x49 7 args) []) ∧
      (4 < 5 ∧ ¬5 < 5 ∧ 15 < 16 ∧ ¬16 < 16 ∧ 1000000 ≤ 1000000 ∧ ¬1000001 ≤ 1000000 ∧ 2 < 3 ∧ ¬3 < 3 ∧ 1 ≤ 1 ∧ 15 ≤ 15 ∧ ¬16 ≤ 15) ∧
      ((0 < 1500 → 0 < 1000 ∧ 1000 < 1500) ∧ (0 < 2200 → 0 < 1500 ∧ 1500 < 2200) ∧ (0 < 1000 → 999 < 1000)) ∧
      ¬(0 < 1000 → 0 < 1000 ∧ 1000 < 1000) ∧ ¬(0 < 1000 → 1000 < 1000) :=
  ⟨fun _ => ⟨asked_canTake _ _ _ rfl (by decide), asked_canTake _ _ _ rfl (by decide)⟩, by decide, by decide, by decide, by decide⟩

/-- Row `n` of that example. -/
def rowAt (n : Nat) : RowRef := { index := BitVec.ofNat 32 n, position := 81000000 + 250 * n }

/-- Row `n` of that example, with this value of the measure. -/
def judgedAt (n : Nat) (q : Quantity) : Judged :=
  { row := rowAt n, band := 2, epoch := 4, lowSpeed := false, speed := 2500, suppressed := false, value := q }

/-- The pending run after row 1, with the peak given. -/
def runFrom (a n : Nat) : PendingRun :=
  { start := rowAt 1, band := 2, epoch := 4, peak := { magnitude := a, signed := a, row := rowAt n }, sat := false, lowSpeed := false
    corrected := false }

/-- An ACTIVE detector. -/
def activeAt (level rise riseMin fall : Nat) (previous : Nat) (lastHold : Option Nat) (length : Nat) : Detector :=
  { Detector.cleared .active with
    level := level, riseCount := rise, riseMin := riseMin, fallCount := fall, previous := some (rowAt previous)
    lastHold := lastHold.map rowAt, runLength := length }

/-- That example, row 2, from the rise of row 1: it opens at level 1. -/
theorem test_detector_opens :
    let d := { Detector.cleared .quiet with riseCount := 1, riseMin := 1, pendingRun := some (runFrom 1100 1) }
    let t := d.judge (.twist 0 4) limitsM3 3 (judgedAt 2 (counts 1600))
    t.1.mode = .active ∧ t.1.level = 1 ∧ t.1.riseCount = 0 ∧ t.1.runLength = 2 ∧
      t.2 = [.opened 3 (runFrom 1600 2) 1 (rowAt 2) 4 2500] := by decide +kernel

/-- That example: row 4 raises the level to 2, row 9 lowers it from 3 to 1, and row 12 closes with end row 9. -/
theorem test_detector_follows :
    (let t := (activeAt 1 1 2 0 3 none 3).judge (.twist 0 4) limitsM3 3 (judgedAt 4 (counts 2300))
     t.1.level = 2 ∧ t.1.riseCount = 0 ∧ t.1.runLength = 4 ∧
      t.2 = [.row 3 (rowAt 4) 4 true 2300 2300 false false 2500 2]) ∧
      (let t := (activeAt 3 0 0 2 8 (some 6) 8).judge (.twist 0 4) limitsM3 3 (judgedAt 9 (counts 900))
       t.1.level = 1 ∧ t.1.fallCount = 0 ∧ t.1.lastHold = none ∧ t.1.runLength = 9) ∧
      (activeAt 1 0 0 2 11 (some 9) 11).judge (.twist 0 4) limitsM3 3 (judgedAt 12 (counts 650)) =
        (.cleared .quiet,
         [.row 3 (rowAt 12) 4 true 650 650 false false 2500 1, .closed 3 .fall (rowAt 9) 1]) := by decide +kernel

/-- The limit set of the worked example "maximum length, latch and release". -/
def limitsM9 : LimitSet := { limitsM3 with enter2 := 0, enter3 := 0, maxLength := 6 }

/-- That example: row 25 closes LONG and latches; row 29, invalid, clears the release count, and row 32 releases. -/
theorem test_detector_latches :
    (activeAt 1 0 0 0 24 none 5).judge (.deviation 3 6 1) limitsM9 9 (judgedAt 25 (counts 1200)) =
        (.cleared .latched,
         [.row 9 (rowAt 25) 4 true 1200 1200 false false 2500 1, .closed 9 .long (rowAt 25) 1]) ∧
      ({ Detector.cleared .latched with releaseCount := 2 }.judge (.deviation 3 6 1) limitsM9 9 (judgedAt 29 .invalid)).1 =
        .cleared .latched ∧
      ({ Detector.cleared .latched with releaseCount := 2 }.judge (.deviation 3 6 1) limitsM9 9 (judgedAt 32 (counts 400))).1 =
        .cleared .quiet := by decide +kernel

theorem limitsM3_lawful : limitsM3.Lawful := ⟨by decide, by decide, by decide, by decide, by decide, by decide⟩

theorem limitsM9_lawful : limitsM9.Lawful := ⟨by decide, by decide, by decide, by decide, by decide, by decide⟩

/-- Witness of DetectorsRiseHoldAndFall: a measure with and without limits; entered levels 0, 1 and 3 at the enter limits; exit limit
800 met and missed; the counts at E and X and one before; the targets of a fall; and the modes. -/
theorem witness_detector :
    let enter (k : Nat) : Nat := if k = 1 then limitsM3.enter1 else if k = 2 then limitsM3.enter2 else limitsM3.enter3
    let level (k : Nat) : Prop := 1 ≤ k ∧ k ≤ 3 ∧ 0 < enter k
    let below (a k : Nat) : Prop := (a : Int) < (enter k : Int) - limitsM3.h
    limitsM3.Lawful ∧ limitsM9.Lawful ∧ (MeasureEntry.twist 0 4 ≠ .disabled ∧ 0 < limitsM3.enter1) ∧
      (MeasureEntry.disabled = .disabled ∧ ¬0 < LimitSet.default.enter1) ∧
      (∀ k, level k → 999 < enter k) ∧
      (level 1 ∧ enter 1 ≤ 1000 ∧ ∀ k, level k → enter k ≤ 1000 → k ≤ 1) ∧
      (level 3 ∧ enter 3 ≤ 2200 ∧ ∀ k, level k → enter k ≤ 2200 → k ≤ 3) ∧
      (below 799 1 ∧ ¬below 800 1) ∧
      (∀ k, level k → k < 1 → below 799 k) ∧
      (level 1 ∧ 1 < 3 ∧ ¬below 900 1 ∧ ∀ k, level k → k < 3 → ¬below 900 k → k ≤ 1) ∧
      (0 + 1 < limitsM3.e ∧ limitsM3.e ≤ 1 + 1 ∧ 1 + 1 < limitsM3.x ∧ limitsM3.x ≤ 2 + 1) ∧
      (¬0 < limitsM3.maxLength ∧ 0 < limitsM9.maxLength ∧ limitsM9.maxLength ≤ min (5 + 1) 65535) ∧
      ((activeAt 3 0 0 2 8 (some 6) 8).mode = .active ∧ (activeAt 3 0 0 2 8 (some 6) 8).level = 3 ∧
        1 < (activeAt 3 0 0 2 8 (some 6) 8).level ∧ (judgedAt 9 (counts 900)).suppressed = false ∧
        (judgedAt 9 (counts 900)).value.valid = true ∧ (judgedAt 9 .invalid).value.valid = false) ∧
      (let d := { Detector.cleared .quiet with riseCount := 1, riseMin := 1, pendingRun := some (runFrom 1100 1) }
       d.mode = .quiet ∧ 0 < d.riseCount ∧ d.pendingRun = some (runFrom 1100 1)) := by
  refine ⟨limitsM3_lawful, limitsM9_lawful, by decide, by decide, ?_, ⟨by decide, by decide, ?_⟩, ⟨by decide, by decide, ?_⟩,
    by decide, ?_, ⟨by decide, by decide, by decide, ?_⟩, by decide, by decide, by decide +kernel, by decide +kernel⟩
  all_goals
    rintro k ⟨h1, h2, -⟩
    interval_cases k <;> decide

/-! ### Exception tracking (chapter 8) -/

/-- The record of that exception after row 5, in context 9, with one record in the alert queue. -/
def recordM3 : ExceptionRecord :=
  { ExceptionRecord.blank with
    measure := 3, band := 2, start := rowAt 1, startEpoch := 4, openSpeed := 2500, levelOpen := 1, levelMax := 2, last := rowAt 5
    peak := { magnitude := 2400, signed := 2400, row := rowAt 5 } }

/-- EXT with that context OPEN for M3. -/
def openExt : Ext :=
  { Ext.afterReset with
    contexts := Ext.afterReset.contexts.set 9 { state := .opened, record := recordM3 }
    free := (List.finRange 32).filter (· ≠ 9)
    openMap := Ext.afterReset.openMap.set 3 (.tracked 9) }

/-- An alert. -/
def someAlert : AlertRecord :=
  { measure := 0, context := none, band := 0, start := .zero, startEpoch := 0, row := .zero, epoch := 0
    peak := { magnitude := 0, signed := 0, row := .zero }, speed := 0 }

/-- The worked example "the record of a three-level exceedance", row 6: maximum level 3, the peak kept, and an alert. -/
theorem test_exception_alert :
    let t := ({ ext := openExt, alerts := [someAlert] } : Tracker).take .default
      (.row 3 (rowAt 6) 4 true 2350 2350 false false 2600 3)
    (t.ext.contexts[(9 : Fin 32)]).record.levelMax = 3 ∧ (t.ext.contexts[(9 : Fin 32)]).record.alerted = true ∧
      (t.ext.contexts[(9 : Fin 32)]).record.peak.magnitude = 2400 ∧
      t.alerts = [someAlert, { measure := 3, context := some 9, band := 2, start := rowAt 1, startEpoch := 4, row := rowAt 6, epoch := 4
                               peak := { magnitude := 2400, signed := 2400, row := rowAt 5 }, speed := 2600 }] := by decide +kernel

/-- That example, the CLOSE: length 9, class EXTENDED, no reason, POSTED; and lost_before 2 as in "running out of contexts". -/
theorem test_exception_close :
    let x := { openExt with lost := 2 }.closed .default 3 .fall (rowAt 9)
    (x.contexts[(9 : Fin 32)]).state = .posted ∧ x.posted = [9] ∧ x.lost = 0 ∧ x.openMap[(3 : Fin 16)] = .none ∧
      (x.contexts[(9 : Fin 32)]).record.closing =
        some { endRow := rowAt 9, length := 9, cls := .extended, reason := .none, lostBefore := 2 } := by decide +kernel

/-- The starts of the worked example "a cyclic fault across a correction". -/
def startAt (position : Int) (epoch : BitVec 8) : RingStart := { position := position, epoch := epoch }

/-- That example: E3 is CYCLIC with pitch 18,250; E2 has too few starts; E4's epochs differ; E6 is CYCLIC with pitch 18,200. -/
theorem test_cyclic :
    let c := { ConfigRecord.default with cyclicCount := 3 }
    cyclicTest c .extended (startAt 1036250 5) [startAt 1018000 5, startAt 1000000 5] = some 18250 ∧
      cyclicTest c .extended (startAt 1018000 5) [startAt 1000000 5] = none ∧
      cyclicTest c .extended (startAt 1054600 6) [startAt 1036250 5, startAt 1018000 5, startAt 1000000 5] = none ∧
      cyclicTest c .extended (startAt 1091000 6) [startAt 1072800 6, startAt 1054600 6, startAt 1036250 5] = some 18200 := by
  decide +kernel

/-- The worked example "running out of contexts": M6 opens with an empty free list and is counted lost; M5 takes the last one. -/
theorem test_exception_opens :
    let x := { Ext.afterReset with free := [31] }
    let t := ({ ext := x, alerts := [] } : Tracker).take .default (.opened 5 (runFrom 1600 2) 1 (rowAt 2) 4 2500)
    let u := t.take .default (.opened 6 (runFrom 1600 2) 1 (rowAt 2) 4 2500)
    t.ext.openMap[(5 : Fin 16)] = .tracked 31 ∧ t.ext.free = [] ∧ t.ext.lost = 0 ∧ u.ext.lost = 1 ∧
      u.ext.openMap[(6 : Fin 16)] =
        .untracked { band := 2, start := rowAt 1, startEpoch := 4, peak := (runFrom 1600 2).peak, alerted := false } := by
  decide +kernel

/-- M3 is a twist with that limit set, its detector has just seen row 1, and this item waits at EXD. -/
def detecting (x : RowItem) : State :=
  { running with
    mse := { running.mse with measures := running.mse.measures.set 3 (.twist 0 4) }
    exd := { running.exd.setLimits 2 3 limitsM3 with
      detectors := running.exd.detectors.set 3
        { Detector.cleared .quiet with riseCount := 1, riseMin := 1, pendingRun := some (runFrom 1100 1) } }
    links := { running.links with mseToExd := [x], mseToStu := [x] } }

/-- Row 2 of the worked example. -/
def rowTwo : Row :=
  { someRow with
    index := 2, position := 81000500, band := 2, epoch := 4, measures := (Vector.replicate 16 .invalid).set 3 (counts 1600) }

/-- Row 2 of that example at EXD and EXT: context 0 opens for M3, and the open count 1 is published for the row. -/
theorem test_rowEvent :
    let t := after .rowEvent (detecting (.row rowTwo))
    (t.exd.detectors[(3 : Fin 16)]).mode = .active ∧ t.ext.openMap[(3 : Fin 16)] = .tracked 0 ∧ t.ext.openCount = 1 ∧
      t.ext.openRow = some 2 ∧ t.links.mseToExd = [] ∧ t.links.mseToStu = [.row rowTwo] := by decide +kernel

/-- R148, R165: a gap resets the detectors and truncates what is open, at its last row. -/
theorem test_exdGapNotice :
    let t := after .exdGapNotice { detecting (.gap 1) with ext := openExt }
    t.exd.detectors[(3 : Fin 16)] = .cleared .quiet ∧ t.ext.openMap[(3 : Fin 16)] = .none ∧ t.ext.posted = [9] ∧
      ((t.ext.contexts[(9 : Fin 32)]).record.closing).map (fun c => (c.endRow, c.length, c.reason)) =
        some (rowAt 5, 5, .truncated) := by decide +kernel

/-- Witness of RowEventsJudgeEveryMeasureAndTrackIt. -/
theorem witness_rowEvent :
    (detecting (.row rowTwo)).links.mseToExd = .row rowTwo :: [] ∧ (detecting (.row rowTwo)).cmu.runState = .measuring ∧
      rowTwo.run = (detecting (.row rowTwo)).cmu.runNumber ∧
      (detecting (.gap 1)).links.mseToExd = .gap (detecting (.gap 1)).cmu.runNumber :: [] ∧ running.links.mseToExd = [] := by
  decide +kernel

theorem openExt_lawful : openExt.PoolLawful .idle := by
  have hopen : ∀ c : Fin 32, (openExt.contexts[c]).state = .opened ↔ c = 9 := by decide +kernel
  have hmap : ∀ m : Fin 16, openExt.openMap[m] = if m = 3 then .tracked 9 else .none := by decide +kernel
  have hsending : ∀ c : Fin 32, (openExt.contexts[c]).state ≠ .sending := by decide +kernel
  have htracked {m : Fin 16} {c : Fin 32} (h : openExt.openMap[m] = .tracked c) : m = 3 ∧ c = 9 := by
    rw [hmap] at h
    split at h
    · next hm => cases h; exact ⟨hm, rfl⟩
    · cases h
  refine ⟨by decide +kernel, by decide +kernel, by decide +kernel, by decide +kernel, fun c => ?_, fun m c h => ?_, fun c => ?_⟩
  · rw [hopen]
    exact ⟨fun h => ⟨3, by rw [hmap, h]; rfl⟩, fun ⟨m, h⟩ => (htracked h).2⟩
  · obtain ⟨rfl, rfl⟩ := htracked h
    decide +kernel
  · exact ⟨fun h => absurd h (hsending c), nofun⟩

/-- Witness of ExceptionsOpenFollowAndClose: a free context and none, level 3 with three and with four alerts waiting, a tracked and an
untracked measure, and the law of the pool with one exception open. -/
theorem witness_exceptions :
    Ext.afterReset.free = 0 :: (List.finRange 32).tail ∧ ({ Ext.afterReset with free := [] } : Ext).free = [] ∧
      ((List.replicate 3 someAlert).length < 4 ∧ 4 ≤ (List.replicate 4 someAlert).length) ∧
      openExt.openMap[(3 : Fin 16)] = .tracked 9 ∧ (openExt.contexts[(9 : Fin 32)]).record.alerted = false ∧
      (let u : UntrackedRecord := { band := 2, start := rowAt 1, startEpoch := 4, peak := (runFrom 1600 2).peak, alerted := false }
       (openExt.setTracking 4 (.untracked u)).openMap[(4 : Fin 16)] = .untracked u) ∧
      openExt.PoolLawful .idle :=
  ⟨by decide +kernel, by decide +kernel, by decide, by decide +kernel, by decide +kernel, by decide +kernel, openExt_lawful⟩

/-! ### Segment statistics (chapter 9) -/

/-- A slot that counts rows of a measure. -/
def slotOn (m : Fin 16) (f : SlotFunction) (threshold : Nat) : SlotEntry :=
  { SlotEntry.default with enabled := true, source := .measure m, function := f, threshold := threshold }

/-- A row index of the worked example "a segment boundary, then a correction", with its located position. -/
def placeAt (n : Quad) (position : Int) : RowRef := { index := n, position := position }

/-- Segment 285 of that example, after row 1,401. -/
def segment285 : Segment :=
  { number := 285, epoch := 7, first := placeAt 602 57000000, last := placeAt 1401 57199750, rowCount := 800, invalidRows := 0
    partSegment := false, unlocated := false, frozen := false, corrected := false, truncated := false }

/-- STU of that example after row 1,401: ABOVE 39, STARTS 5, edge set. -/
def exampleStu : Stu :=
  { Stu.cold with
    slots := (Stu.cold.slots.set 0 (slotOn 5 .above 500)).set 1 (slotOn 5 .starts 500)
    accumulators := (Stu.cold.accumulators.set 0 { Accumulators.zero with n := 800, count := 39 }).set 1
      { Accumulators.zero with n := 800, count := 5 }
    edges := Stu.cold.edges.set 1 true
    segment := some segment285 }

/-- A row of that example at STU, EXT having published the open count of that row. -/
def counting (x : Stu) (n : Quad) (position : Int) (epoch : BitVec 8) (m5 : Quantity) : State :=
  { running with
    stu := x
    ext := { running.ext with openRow := some n }
    links := { running.links with mseToStu :=
      [.row { someRow with
        index := n, position := position, unlocated := false, epoch := epoch
        measures := (Vector.replicate 16 .invalid).set 5 m5 }] } }

/-- The counts of slots 0 and 1 and the edge flag of slot 1. -/
def countsOf (x : Stu) : Nat × Nat × Bool :=
  ((x.accumulators[(0 : Fin 8)]).count, (x.accumulators[(1 : Fin 8)]).count, x.edges[(1 : Fin 8)])

/-- That example, row 1,402: the record of segment 285 is queued and 286 opens with ABOVE 1 and, the edge flag being set, no start. -/
theorem test_stuRowEvent_boundary :
    let t := after .stuRowEvent (counting exampleStu 1402 57200000 7 (counts 700))
    countsOf t.stu = (1, 0, true) ∧ t.stu.segment.map (fun g => (g.number, g.epoch, g.rowCount, g.partSegment)) = some (286, 7, 1, false) ∧
      t.ltx.segments.map (fun r => (r.segment, r.entries.map fun e => (e.n, e.result))) =
        [(segment285, [(800, some 39), (800, some 5)])] ∧ t.links.mseToStu = [] := by decide +kernel

/-- That example, row 1,404 after the correction: the record of segment 286 carries CORRECTED, and 286 opens again with PARTIAL. -/
theorem test_stuRowEvent_correction :
    let g := { segment285 with number := 286, first := placeAt 1402 57200000, last := placeAt 1403 57200250, rowCount := 2 }
    let t := after .stuRowEvent (counting { exampleStu with segment := some g, edges := Stu.cold.edges } 1404 57200822 8 (counts 550))
    countsOf t.stu = (1, 1, true) ∧ t.stu.segment.map (fun g => (g.number, g.epoch, g.partSegment)) = some (286, 8, true) ∧
      t.ltx.segments.map SegmentRecord.segment = [{ g with corrected := true }] := by decide +kernel

/-- R175: a gap notice clears the edge flags alone. -/
theorem test_stuGapNotice :
    let s := { running with stu := exampleStu, links := { running.links with mseToStu := [.gap 1] } }
    countsOf (after .stuGapNotice s).stu = (39, 5, false) ∧ (after .stuGapNotice s).stu.segment = some segment285 := by decide +kernel

/-- The accumulators after these values, in rows 100 on. -/
def accumulated (xs : List (Int × RowRef × Bool)) : Accumulators := xs.foldl (fun a x => a.add x.1 x.2.1 x.2.2) .zero

/-- The rows of the worked example "sigma, starts and peak over one segment" that count. -/
def exampleRows : List (Int × RowRef × Bool) :=
  [(10, rowAt 100, false), (-20, rowAt 101, true), (30, rowAt 103, false), (0, rowAt 104, false), (-30, rowAt 105, true)]

/-- That example, closed after row 104 and after row 105. -/
theorem test_sigma :
    (accumulated (exampleRows.take 4)).sigma = 18 ∧ (accumulated (exampleRows.take 4)).aux .sigma = some 5 ∧
      (accumulated exampleRows).sigma = 21 ∧ (accumulated exampleRows).aux .sigma = some (-2) ∧
      (accumulated exampleRows).count = 2 ∧ (accumulated exampleRows).result .peak = some 30 ∧
      (accumulated exampleRows).aux .peak = some 81025750 := by decide +kernel

/-- R172: segment numbers are floors, below 0 too. -/
theorem test_segmentNumber :
    segmentNumber .default 57199999 = 285 ∧ segmentNumber .default 57200000 = 286 ∧ segmentNumber .default (-1) = -1 := by decide

/-- R176, R196: slot 1 counts starts of M3 at 15. -/
theorem test_writeSlot :
    (after .writeSlot (asked ready 0x60 [1, 1, 3, 2, 0, 0, 0, 15, 0, 0])).stu.slots[(1 : Fin 8)] = slotOn 3 .starts 15 ∧
      reply (after .writeSlot (asked ready 0x60 [1, 1, 18, 2, 0, 0, 0, 15, 0, 0])) = some (.badArg, []) := by decide +kernel

/-- R176, R196: slot 0 of the example: its entry, its accumulators (n 800, count 39), the edge flag, status OK and result 39. -/
theorem test_readSlot :
    reply (after .readSlot (asked (running.withStu exampleStu) 0x61 [0])) =
      some (.ok, [1, 5, 1, 0, 0, 1, 0xF4, 0, 0] ++ [0, 0, 3, 0x20] ++ List.replicate 16 0 ++ [0, 0, 0, 39] ++ List.replicate 12 0 ++
        [0] ++ [0] ++ [0] ++ [0, 0, 0, 0, 0, 0, 0, 39]) := by decide +kernel

/-- R180: FREEZE marks the segment in progress. -/
theorem test_freeze :
    let t := after .freeze (asked (running.withStu exampleStu) 0x62 [])
    t.stu.frozen = true ∧ t.stu.segment = some { segment285 with frozen := true } ∧ reply t = some (.ok, [1]) := by decide +kernel

theorem test_thaw :
    let t := after .thaw (told (running.withStu { exampleStu with frozen := true }) 0x63 [])
    t.stu.frozen = false ∧ t.ltx.responses = [] ∧ t.cmu.commandsDiscarded = 0 := by decide +kernel

/-- R181: the accumulators are cleared and the segment becomes PARTIAL; the edge flags stay. -/
theorem test_resetStats :
    let t := after .resetStats (asked (running.withStu exampleStu) 0x64 [])
    countsOf t.stu = (0, 0, true) ∧ t.stu.segment = some { segment285 with partSegment := true } := by decide +kernel

/-- Witness of SlotsAreWrittenReadFrozenAndCleared: slots 7 and 8, sources 16, 17 and 18, functions 4 and 5, thresholds at 1,000,000 and
past it. -/
theorem witness_slots :
    (∀ args, (asked ready 0x60 args).CanTake (commandEntry 1 false 0x60 7 args) [] ∧
      (asked ready 0x61 args).CanTake (commandEntry 1 false 0x61 7 args) []) ∧
      (told running 0x62 []).CanTake (commandEntry 1 true 0x62 7 []) [] ∧
      (told running 0x63 []).CanTake (commandEntry 1 true 0x63 7 []) [] ∧
      (asked running 0x64 []).CanTake (commandEntry 1 false 0x64 7 []) [] ∧ ready.cmu.runState = .stopped ∧
      (7 < 8 ∧ 8 ≤ 8 ∧ 17 < 18 ∧ ¬18 < 18 ∧ 4 < 5 ∧ ¬5 < 5 ∧ 1000000 ≤ 1000000 ∧ ¬1000001 ≤ 1000000 ∧ 1 < 2 ∧ ¬2 < 2) :=
  ⟨fun _ => ⟨asked_canTake _ _ _ rfl (by decide), asked_canTake _ _ _ rfl (by decide)⟩, told_canTake _ _ _ rfl, told_canTake _ _ _ rfl,
    asked_canTake _ _ _ rfl (by decide), rfl, by decide⟩

/-- Witness of StuRowsTestTheSegmentThenCount: the open count not yet published and published, no segment, one of another epoch, of
another number and of the row's own, a frozen STU, and slots that count and do not. -/
theorem witness_stuRow :
    let s := counting exampleStu 1402 57200000 7 (counts 700)
    (s.links.mseToStu.length = 1 ∧ s.cmu.runState = .measuring ∧ (1 : BitVec 8) = s.cmu.runNumber ∧ s.ext.openRow = some 1402 ∧
      running.ext.openRow ≠ some 1402) ∧
      (Stu.cold.segment = none ∧ s.stu.segment = some segment285 ∧ segment285.epoch = 7 ∧ segment285.epoch ≠ 8 ∧
        segment285.number ≠ 57200000 / (200 * 1000 : Nat) ∧ segment285.number = 57199999 / (200 * 1000 : Nat)) ∧
      (s.stu.frozen = false ∧ ({ exampleStu with frozen := true } : Stu).frozen = true) ∧
      ((exampleStu.slots[(0 : Fin 8)]).enabled = true ∧ (exampleStu.slots[(0 : Fin 8)]).source = .measure 5 ∧
        (exampleStu.slots[(2 : Fin 8)]).enabled = false ∧ Quantity.invalid.valid = false ∧ (counts 700).valid = true) ∧
      ({ running with links := { running.links with mseToStu := [.gap 1] } } : State).links.mseToStu = [.gap running.cmu.runNumber] := by
  decide +kernel

/-- Witness of SigmaNeverExceedsTheLargestMagnitude: the example's rows, whose largest magnitude is 30, no rows, and a row whose square
no accumulator holds. -/
theorem witness_sigma :
    (∀ x ∈ exampleRows, x.1.natAbs ≤ 30) ∧ exampleRows ≠ [] ∧ (accumulated exampleRows).sat = false ∧
      (accumulated [(4294967296, rowAt 0, false)]).sat = true ∧ Accumulators.zero.n = 0 ∧ 0 < (accumulated exampleRows).n ∧
      (accumulated exampleRows).sum * (accumulated exampleRows).sum ≤
        ((accumulated exampleRows).n : Int) * (accumulated exampleRows).sumSq ∧
      (accumulated exampleRows).peak ≠ none := by decide +kernel

/-! ### The frame link transmitter (chapter 10) -/

/-- R185. -/
theorem test_hold_and_go :
    (after .hold clearLane).ltx.hold = .hold ∧ (after .go ready).ltx.hold = .go ∧ (after .hold clearLane).ltx.lane = .idle := by decide

/-- A row block of eight rows at most. -/
def blockOf (rows : List Row) : Block := { mask := 0, effectiveSize := 8, skipped := 0, gapBefore := false, rows := rows }

/-- The end of the worked example "arbitration": everything waits while the lane is free and GO is in force. -/
def waiting : State :=
  { clearLane with
    cmu := { clearLane.cmu with config := { clearLane.cmu.config with reportDest := 1 } }
    ext := { Ext.afterReset with
      contexts := Ext.afterReset.contexts.set 7 { state := .posted, record := .blank }, free := [], posted := [7] }
    ltx := { clearLane.ltx with
      alerts := [someAlert], forward := [[12, 2, 0x34, 0, 0]], responses := [someResponse]
      locations := [{ kind := .reverseSuspend, measured := 0, offset := 0, epoch := 0, located := false, lost := 0 }]
      segments := [{ segment := segment285, lostBefore := 0, entries := [] }]
      buffers := clearLane.ltx.buffers.set 1 (.pending (blockOf [someRow])), closedOrder := [1] } }

/-- That example: the alert ranks first, then the forwarded frame, the response, the location record, the exception, the segment record
and the row block. -/
theorem test_arbiterChoice_rank :
    let noAlert := waiting.withLtx { waiting.ltx with alerts := [] }
    let noForward := noAlert.withLtx { noAlert.ltx with forward := [] }
    let noResponse := noForward.withLtx { noForward.ltx with responses := [] }
    let noLocation := noResponse.withLtx { noResponse.ltx with locations := [] }
    let noException := noLocation.withExt Ext.afterReset
    let noSegment := noException.withLtx { noException.ltx with segments := [] }
    (after .arbiterChoice waiting).ltx.lane = .own .alert ∧ (after .arbiterChoice noAlert).ltx.lane = .forwarded ∧
      (after .arbiterChoice noForward).ltx.lane = .own (.response someResponse) ∧
      (after .arbiterChoice noResponse).ltx.lane = .own .location ∧
      (after .arbiterChoice noLocation).ltx.lane = .own (.exception 7) ∧
      (after .arbiterChoice noException).ltx.lane = .own .segment ∧ (after .arbiterChoice noSegment).ltx.lane = .own (.rows 1) := by
  decide +kernel

/-- R187, R196: a response frame to station 1 from station 5: kind 0x33, 4 payload octets, then its check word. -/
theorem test_arbiterChoice_frame :
    (after .arbiterChoice (clearLane.withLtx { clearLane.ltx with responses := [{ someResponse with tag := 7 }] })).outbound.take 10 =
      .start :: ([1, 5, 0x33, 0, 4, 0x01, 0, 7, 0] : List Octet).map .octet := by decide +kernel

/-- That example: EXCEPTION ends and context 7 returns to the free list; ROWS ends and the buffer is EMPTY. -/
theorem test_transmissionEnd :
    (let t := after .transmissionEnd (after .arbiterChoice
        { waiting with ltx := { clearLane.ltx with responses := [] } })
     t.ltx.lane = .idle ∧ t.ext.free = [7] ∧ (t.ext.contexts[(7 : Fin 32)]).state = .free ∧ t.outbound.getLast? = some .endFrame) ∧
      (let s := clearLane.withLtx { clearLane.ltx with
        lane := .own (.rows 1), buffers := clearLane.ltx.buffers.set 1 (.sending (blockOf [someRow])) }
       (after .transmissionEnd s).ltx.buffers[(1 : Fin 2)] = .empty) := by decide +kernel

/-- R193: with all 16 measures 13 rows fit; a block at its effective size becomes PENDING. -/
theorem test_ltxRow :
    effectiveSize 0xFFFF 16 = 13 ∧ effectiveSize 0 16 = 16 ∧
      (let s := { running with
        ltx := { running.ltx with buffers := running.ltx.buffers.set 1 (.filling (blockOf (List.replicate 7 someRow))) }
        links := { running.links with mseToLtx := [.row someRow] } }
       (after .ltxRow s).ltx.buffers[(1 : Fin 2)] = .pending (blockOf (List.replicate 8 someRow)) ∧ (after .ltxRow s).ltx.closedOrder = [1]) := by
  decide +kernel

/-- R195: with no OPEN and no EMPTY buffer the row is skipped and counted. -/
theorem test_ltxRow_skipped :
    let s := { running with
      ltx := { running.ltx with
        lane := .own (.rows 0), buffers := #v[.sending (blockOf [someRow]), .pending (blockOf [someRow])], closedOrder := [1] }
      links := { running.links with mseToLtx := [.row someRow] } }
    (after .ltxRow s).ltx.skippedRows = 1 ∧ (after .ltxRow s).links.mseToLtx = [] := by decide +kernel

/-- R194: a gap closes the OPEN block and leaves the gap mark. -/
theorem test_ltxGapNotice :
    let s := { running with
      ltx := { running.ltx with buffers := running.ltx.buffers.set 0 (.filling (blockOf [someRow])) }
      links := { running.links with mseToLtx := [.gap 1] } }
    (after .ltxGapNotice s).ltx.buffers[(0 : Fin 2)] = .pending (blockOf [someRow]) ∧ (after .ltxGapNotice s).ltx.gapMark = true := by
  decide +kernel

/-- Witness of BlocksCloseAndRecordsJoinOrAreCounted: no block OPEN and one, and queues with room for one and for none. -/
theorem witness_closing :
    (∀ (i : Fin 2) (b : Block), ready.ltx.buffers[i] ≠ .filling b) ∧
      (ready.ltx.buffers.set 1 (.filling (blockOf [someRow])))[(1 : Fin 2)] = .filling (blockOf [someRow]) ∧
      (∀ (j : Fin 2) (c : Block), j ≠ 1 → (ready.ltx.buffers.set 1 (.filling (blockOf [someRow])))[j] ≠ .filling c) ∧
      (7 < 8 ∧ 8 ≤ (List.replicate 8 someResponse).length) ∧ (waiting.ltx.segments.length < 4 ∧ waiting.ltx.locations.length < 8) := by
  have hempty : ∀ i : Fin 2, ready.ltx.buffers[i] = .empty := by decide
  have hother : ∀ j : Fin 2, j ≠ 1 → (ready.ltx.buffers.set 1 (.filling (blockOf [someRow])))[j] = .empty := by decide +kernel
  refine ⟨fun i b => ?_, rfl, fun j c hj => ?_, by decide, by decide⟩
  · rw [hempty]
    exact nofun
  · rw [hother j hj]
    exact nofun

/-- Witness of TheArbiterTakesTheFirstKindInRank: the lane free and taken, HOLD, and each kind at the head of its queue. -/
theorem witness_arbiter :
    (waiting.ltx.lane = .idle ∧ waiting.ltx.hold = .go ∧ ready.ltx.hold = .hold) ∧
      (clearLane.withLtx { clearLane.ltx with lane := .cutThrough }).ltx.lane ≠ .idle ∧
      waiting.ltx.alerts = someAlert :: [] ∧ waiting.ltx.forward = [12, 2, 0x34, 0, 0] :: [] ∧
      waiting.ltx.responses = someResponse :: [] ∧ waiting.ltx.locations.length = 1 ∧ waiting.ext.posted = 7 :: [] ∧
      (∀ j : Fin 32, (waiting.ext.contexts[j]).state ≠ .sending) ∧ waiting.ltx.segments.length = 1 ∧
      waiting.ltx.closedOrder = 1 :: [] ∧ waiting.ltx.buffers[(1 : Fin 2)] = .pending (blockOf [someRow]) ∧
      clearLane.ltx.alerts = [] ∧ clearLane.ltx.forward = [] ∧ clearLane.ltx.responses = [] ∧ clearLane.ltx.locations = [] ∧
      clearLane.ext.posted = [] ∧ clearLane.ltx.segments = [] ∧ clearLane.ltx.closedOrder = [] ∧
      (let c : Closing := { endRow := .zero, length := 9, cls := .extended, reason := .none, lostBefore := 2 }
       ({ ExceptionRecord.blank with closing := some c } : ExceptionRecord).closing = some c) := by decide +kernel

/-- R196: an EXCEPTION payload: context 9, measure 3, band 2, levels 1 and 3, EXTENDED, no reason, ALERTED with LOW_SPEED, and
the length in octets 25 to 28. -/
theorem test_exception_layout :
    let c : Closing := { endRow := rowAt 9, length := 9, cls := .extended, reason := .none, lostBefore := 2 }
    let p := ({ recordM3 with levelMax := 3, lowSpeed := true, alerted := true, closing := some c } : ExceptionRecord).payload 9
    p.length = 52 ∧ p.take 8 = [9, 3, 2, 1, 3, 1, 0, 0x14] ∧ (p.drop 25).take 4 = [0, 0, 0, 9] ∧ p.getLast? = some 2 := by
  decide +kernel

/-- Witness of TransmissionEndCompletesTheFrame: each lane state and each own frame. -/
theorem witness_transmissionEnd (f : OwnFrame) :
    clearLane.ltx.lane = .idle ∧ (clearLane.withLtx { clearLane.ltx with lane := .forwarded }).ltx.lane = .forwarded ∧
      (clearLane.withLtx { clearLane.ltx with lane := .own f }).ltx.lane = .own f ∧
      (someResponse.code ≠ 0x03 ∧ someResponse.code ≠ 0x04) := ⟨rfl, rfl, rfl, by decide⟩

/-- Witness of RowsFillTheOpenBlock: a block OPEN, both buffers EMPTY, the first taken, and both taken. -/
theorem witness_ltxRow :
    (staleRows (.row someRow)).links.mseToLtx = .row someRow :: [] ∧ running.cmu.runState = .measuring ∧
      someRow.run = running.cmu.runNumber ∧ running.ltx.buffers[(0 : Fin 2)] = .empty ∧ running.ltx.buffers[(1 : Fin 2)] = .empty ∧
      (let v : Vector Buffer 2 := #v[.sending (blockOf [someRow]), .empty]
       v[(0 : Fin 2)] ≠ .empty ∧ v[(1 : Fin 2)] = .empty) ∧
      (let v : Vector Buffer 2 := #v[.sending (blockOf [someRow]), .pending (blockOf [someRow])]
       ∀ i : Fin 2, v[i] ≠ .empty) ∧
      (staleRows (.gap 1)).links.mseToLtx = .gap running.cmu.runNumber :: [] ∧ ready.links.mseToLtx = [] := by decide +kernel

/-! ### States that meet the invariants, each with a command waiting -/

/-- Witness of QueuesAndCountsStayWithinTheirLimits: four responses waiting, and a count at its limit. -/
theorem witness_bounded :
    let s := { crowded with
      lrx := { crowded.lrx with counters := { crowded.lrx.counters with framingErrors := 65535 } }
      links := { crowded.links with odoToLoc := [.mark 1 0, .gap 1] }
      pending := [.abort] }
    s.QueuesBounded ∧ s.CountsBounded ∧ handOverShape s.links.odoToLoc = true ∧
      ((s.links.mseToExd.filter RowItem.isRow).length ≤ 1 ∧ (s.links.mseToStu.filter RowItem.isRow).length ≤ 1) ∧
      ∃ t, step s = .next t :=
  ⟨⟨by decide, by decide, by decide, by decide, by decide, by decide, by decide⟩,
    ⟨⟨by decide, by decide, by decide, by decide, by decide, by decide, by decide, by decide, by decide, by decide⟩, by decide, by decide,
      by decide, by decide, by decide, by decide⟩, by decide, by decide, _, rfl⟩

/-- The header of that frame, in RECEIVING, meets the law of the frame being assembled. -/
theorem header_coherent (f : Assembly) (hf : (receiving [255, 2, 0x31, 0, 38]).lrx.receiver = .receiving f) :
    f.Coherent ready.stationOctet := by
  cases hf
  have h : (frameOf [255, 2, 0x31, 0, 38]).header = some (headerOf 5 [255, 2, 0x31, 0, 38]) := rfl
  simp only [Assembly.Coherent, h]
  decide +kernel

/-- Witness of TheReceiverAndItsCopyStayCoherent: a frame with its header complete, stored in LTX, and copied cut-through. -/
theorem witness_coherent :
    let s := { receiving [255, 2, 0x31, 0, 38] with
      ltx := { ready.ltx with store := some [255, 2, 0x31, 0, 38] }, pending := [.dataOctet 1] }
    let u := { receiving [255, 2, 0x31, 0, 38] with
      ltx := { ready.ltx with lane := .cutThrough }
      outbound := [.endFrame, .start, .octet 255, .octet 2, .octet 0x31, .octet 0, .octet 38], pending := [.dataOctet 1] }
    (s.LinkCoherent ∧ ∃ t, step s = .next t) ∧ u.LinkCoherent ∧ ∃ t, step u = .next t := by
  have hh : (receiving [255, 2, 0x31, 0, 38]).lrx.receiver.handed = some [255, 2, 0x31, 0, 38] := by decide +kernel
  refine ⟨⟨⟨header_coherent, .inr ⟨by decide, hh.symm⟩, fun h => ?_⟩, _, rfl⟩,
    ⟨header_coherent, .inl ⟨rfl, rfl, by simp only [hh, Option.isSome_some]⟩, fun _ octets ho => ?_⟩, _, rfl⟩
  · exact absurd h (by decide)
  · cases hh.symm.trans ho
    exact ⟨[.endFrame], rfl⟩

theorem ready_settings : ready.SettingsLawful :=
  ⟨by constructor <;> decide, by decide, by decide, fun m => by
    have h : ∀ m : Fin 16, ready.mse.measures[m] = .disabled := by decide
    simp only [h, MeasureEntry.Lawful]⟩

/-- Witness of SettingsStayLawful, TheOdometerStaysInRangeAndNeverDecreases and HistoryAndStatisticsStayInRange. -/
theorem witness_ranges :
    let s := { ready with pending := [.silenceExpiry] }
    s.SettingsLawful ∧ s.odo.InRange ∧ (∀ (b : Fin 5) (m : Fin 16), (s.exd.limitSet b m).Lawful) ∧
      (∀ i : Fin 8, (s.stu.accumulators[i]).InRange) ∧ (∃ t, step s = .next t) ∧
      (s.odo.d ≤ 1099511627775 ∧ (∃ t, exec .silenceExpiry s = .next t) ∧ (∀ straps, Instr.silenceExpiry ≠ .powerOnReset straps) ∧
        ¬(Instr.silenceExpiry = .transmissionEnd ∧ ∃ r, s.ltx.lane = .own (.response r) ∧ r.resets ≠ none)) := by
  have hl : ∀ (b : Fin 5) (m : Fin 16), ready.exd.limitSet b m = .default := by decide +kernel
  have ha : ∀ i : Fin 8, ready.stu.accumulators[i] = .zero := by decide
  refine ⟨⟨ready_settings.config, ready_settings.pitch, ready_settings.blockSize, ready_settings.measures⟩,
    ⟨by decide, by decide, by decide, by decide⟩, fun b m => ?_, fun i => ?_, ⟨_, rfl⟩, by decide, ⟨_, rfl⟩, fun _ => nofun, nofun⟩
  · exact (hl b m).symm ▸ ⟨by decide, by decide, by decide, by decide, by decide, by decide⟩
  · exact (ha i).symm ▸ ⟨by decide, by decide, by decide, by decide, by decide⟩

/-- Witness of LocationTablesStayLawful: a full mark table, with a WRITE MARK waiting. -/
theorem witness_loc_lawful :
    let s := { asked (running.withLoc { Loc.cold with marks := fullMarks }) 0x50 (octetsOf 2 257 ++ octetsOf 4 0 ++ octetsOf 2 0) with
      pending := [.writeMark] }
    s.loc.Lawful ∧ ∃ t, step s = .next t := ⟨fullMarks_lawful, _, rfl⟩

/-- Witness of HistoryAndStatisticsStayInRange for MSE: five slots held, with a gap waiting. -/
theorem witness_mse_lawful :
    let s := { measuringAt exampleMse (.gap 1) with pending := [.gapEvent] }
    s.mse.Lawful ∧ ∃ t, step s = .next t := by
  have hs : ∀ i : Fin 128, ∀ t ∈ exampleMse.history[i], t.index.toNat % 128 = i.val ∧
      ∀ p : Fin 10, -1000000 ≤ (t.parameters[p]).value ∧ (t.parameters[p]).value ≤ 1000000 := by decide +kernel
  have hb : ∀ m : Fin 16, exampleMse.baselines[m] = none := by decide +kernel
  refine ⟨⟨fun i t h => (hs i t h).1, fun i h => ?_, fun i t h => (hs i t h).2, fun m b h => ?_⟩, _, rfl⟩
  · cases h
    exact ⟨slotOf 4 none (counts 160), by decide +kernel, rfl⟩
  · exact absurd ((hb m).symm.trans h) nofun

/-- Witness of DetectorsContextsAndTheOpenMapStayInStep: the exception of M3 open in MEASURING, with a gap waiting at EXD. -/
theorem witness_tracking :
    let s := { detecting (.gap 1) with
      ext := openExt
      exd := { running.exd with detectors := running.exd.detectors.set 3 (activeAt 2 1 3 0 5 none 5) }
      pending := [.exdGapNotice] }
    s.TrackingLawful ∧ ∃ t, step s = .next t := by
  have hd : ∀ m : Fin 16, (running.exd.detectors.set 3 (activeAt 2 1 3 0 5 none 5))[m] =
      if m = 3 then activeAt 2 1 3 0 5 none 5 else .cleared .disabled := by decide +kernel
  have hmap : ∀ m : Fin 16, openExt.openMap[m] = if m = 3 then .tracked 9 else .none := by decide +kernel
  refine ⟨⟨fun m => ?_, openExt_lawful, fun m => ?_⟩, _, rfl⟩
  · simp only [hd]
    split <;> exact ⟨by decide, by decide, by decide, by decide, nofun⟩
  · simp only [hd, hmap]
    split <;> decide

/-- Witness of RowBlockBuffersStayLawful: a block OPEN with seven rows of eight, and a row waiting at LTX. -/
theorem witness_buffers :
    let s := { ready with
      ltx := { ready.ltx with buffers := ready.ltx.buffers.set 1 (.filling (blockOf (List.replicate 7 someRow))) }
      pending := [.ltxRow] }
    s.SettingsLawful ∧ s.ltx.BuffersLawful ∧ ∃ t, step s = .next t := by
  have hb : ∀ i : Fin 2, (ready.ltx.buffers.set 1 (.filling (blockOf (List.replicate 7 someRow))))[i] =
      if i = 1 then .filling (blockOf (List.replicate 7 someRow)) else .empty := by decide +kernel
  refine ⟨⟨ready_settings.config, ready_settings.pitch, ready_settings.blockSize, ready_settings.measures⟩,
    ⟨fun i b h => ?_, fun i b h => ?_, fun i => ?_, fun b b' h => ?_, by decide, fun i => ?_⟩, _, rfl⟩
  · simp only [hb] at h
    split at h
    · cases h
      exact ⟨⟨by decide, by decide, by decide, by decide +kernel⟩, by decide⟩
    · cases h
  · simp only [hb] at h
    split at h <;> cases h
  · simp only [hb]
    refine ⟨fun ⟨b, h⟩ => ?_, nofun⟩
    split at h <;> cases h
  · simp only [hb] at h
    exact absurd h.1 nofun
  · simp only [hb]
    refine ⟨nofun, fun ⟨b, h⟩ => ?_⟩
    split at h <;> cases h

end Sys2Proof.Tests
end

/-! SUPPORT. What an arrival on the inbound data lane does in each state of the receiver, how the notices that LRX sends to LTX
leave LRX alone, and what becomes of a good frame (R5 to R12, R15 to R19). -/

namespace Sys2Proof.Machine

/-! ### Arrivals while line-code lock is held and while it is lost (section 1.1) -/

theorem whileLocked_of_locked {s : State} (h : s.lineLock = true) (arrival : State → State) :
    s.whileLocked arrival = .next (arrival s) := by
  simp [State.whileLocked, h]

theorem whileLocked_of_unlocked {s : State} (h : s.lineLock = false) (arrival : State → State) :
    s.whileLocked arrival = .next s := by
  simp [State.whileLocked, h]

theorem exec_dataOctet_of_locked {s : State} (h : s.lineLock = true) (b : Octet) :
    exec (.dataOctet b) s = .next (s.arriveOctet b) := whileLocked_of_locked h (·.arriveOctet b)

theorem exec_idle_of_locked {s : State} (h : s.lineLock = true) : exec .idle s = .next s.arriveIdle :=
  whileLocked_of_locked h _

theorem exec_start_of_locked {s : State} (h : s.lineLock = true) : exec .start s = .next s.arriveStart :=
  whileLocked_of_locked h _

theorem exec_endFrame_of_locked {s : State} (h : s.lineLock = true) : exec .endFrame s = .next s.arriveEnd :=
  whileLocked_of_locked h _

theorem exec_abort_of_locked {s : State} (h : s.lineLock = true) : exec .abort s = .next s.arriveAbort :=
  whileLocked_of_locked h _

/-! ### Each arrival in each state of the receiver (R5, R6, R10, R11) -/

theorem arriveOctet_of_hunt {s : State} (h : s.lrx.receiver = .hunt) (b : Octet) : s.arriveOctet b = s := by
  simp [State.arriveOctet, h]

theorem arriveOctet_of_ready {s : State} (h : s.lrx.receiver = .ready) (b : Octet) :
    s.arriveOctet b = s.withLrx (s.lrx.move .hunt s.lrx.counters.framing) := by
  simp [State.arriveOctet, h]

theorem arriveIdle_of_hunt {s : State} (h : s.lrx.receiver = .hunt) :
    s.arriveIdle = s.withLrx (s.lrx.leaveHunt .ready) := by
  simp [State.arriveIdle, h]

theorem arriveIdle_of_ready {s : State} (h : s.lrx.receiver = .ready) : s.arriveIdle = s := by
  simp [State.arriveIdle, h]

theorem arriveIdle_of_receiving {s : State} {f : Assembly} (h : s.lrx.receiver = .receiving f) :
    s.arriveIdle = (s.withLrx (s.lrx.move .ready s.lrx.counters.framing)).discardFrame f := by
  simp [State.arriveIdle, h]

theorem arriveStart_of_hunt {s : State} (h : s.lrx.receiver = .hunt) :
    s.arriveStart = s.withLrx (s.lrx.leaveHunt (.receiving .fresh)) := by
  simp [State.arriveStart, h]

theorem arriveStart_of_ready {s : State} (h : s.lrx.receiver = .ready) :
    s.arriveStart = s.withLrx { s.lrx with receiver := .receiving .fresh } := by
  simp [State.arriveStart, h]

theorem arriveStart_of_receiving {s : State} {f : Assembly} (h : s.lrx.receiver = .receiving f) :
    s.arriveStart = (s.withLrx (s.lrx.move (.receiving .fresh) s.lrx.counters.framing)).discardFrame f := by
  simp [State.arriveStart, h]

theorem arriveEnd_of_hunt {s : State} (h : s.lrx.receiver = .hunt) : s.arriveEnd = s := by
  simp [State.arriveEnd, h]

theorem arriveEnd_of_ready {s : State} (h : s.lrx.receiver = .ready) :
    s.arriveEnd = s.withLrx (s.lrx.move .ready s.lrx.counters.framing) := by
  simp [State.arriveEnd, h]

theorem arriveEnd_of_receiving {s : State} {f : Assembly} (h : s.lrx.receiver = .receiving f) :
    s.arriveEnd = s.judgeFrame f := by
  simp [State.arriveEnd, h]

theorem arriveAbort_of_hunt {s : State} (h : s.lrx.receiver = .hunt) : s.arriveAbort = s := by
  simp [State.arriveAbort, h]

theorem arriveAbort_of_ready {s : State} (h : s.lrx.receiver = .ready) :
    s.arriveAbort = s.withLrx (s.lrx.move .ready s.lrx.counters.framing) := by
  simp [State.arriveAbort, h]

theorem arriveAbort_of_receiving {s : State} {f : Assembly} (h : s.lrx.receiver = .receiving f) :
    s.arriveAbort = (s.withLrx (s.lrx.move .ready s.lrx.counters.aborted)).discardFrame f := by
  simp [State.arriveAbort, h]

/-- R5, R6: receiver READY keeps its state when a symbol is only counted. -/
theorem Lrx.move_ready_of_ready {l : Lrx} (h : l.receiver = .ready) (c : LinkCounters) :
    l.move .ready c = { l with counters := c } := by
  simp [Lrx.move, ← h]

/-! ### The notices to LTX neither read nor change LRX and the lock (R190, R191) -/

theorem dropNotice_withLrx (s : State) (l : Lrx) : (s.withLrx l).dropNotice = s.dropNotice.withLrx l := by
  rw [State.dropNotice, State.dropNotice, apply_ite (State.withLrx · l)]
  rfl

theorem dropNotice_withLineLock (s : State) (x : Bool) :
    (s.withLineLock x).dropNotice = s.dropNotice.withLineLock x := by
  rw [State.dropNotice, State.dropNotice, apply_ite (State.withLineLock · x)]
  rfl

theorem endNotice_withLrx (s : State) (l : Lrx) : (s.withLrx l).endNotice = s.endNotice.withLrx l := by
  rw [State.endNotice, State.endNotice, apply_ite (State.withLrx · l)]
  rfl

theorem discardFrame_withLrx (s : State) (l : Lrx) (f : Assembly) :
    (s.withLrx l).discardFrame f = (s.discardFrame f).withLrx l := by
  rw [State.discardFrame, dropNotice_withLrx, State.discardFrame, apply_ite (State.withLrx · l)]

theorem discardFrame_withLineLock (s : State) (x : Bool) (f : Assembly) :
    (s.withLineLock x).discardFrame f = (s.discardFrame f).withLineLock x := by
  rw [State.discardFrame, dropNotice_withLineLock, State.discardFrame, apply_ite (State.withLineLock · x)]

/-! ### Loss of lock (R12) -/

/-- R13: a frame is being handed over exactly when its assembly says so. -/
theorem handed_receiving_isSome (f : Assembly) : (Receiver.receiving f).handed.isSome = f.handsOver := by
  cases h : f.handsOver <;> simp [Receiver.handed, h]

/-- R12: the drop notice first, if a frame was being handed over; then LRX in HUNT with the loss counted. -/
theorem loseLock_eq (s : State) :
    s.loseLock = ((if s.lrx.receiver.handed.isSome then s.dropNotice else s).withLineLock false).withLrx
      { s.lrx with receiver := .hunt, linkUp := false, counters := s.lrx.counters.lockLoss } := by
  cases h : s.lrx.receiver with
  | hunt => simp [State.loseLock, h, Receiver.handed]
  | ready => simp [State.loseLock, h, Receiver.handed]
  | receiving f =>
    simp only [State.loseLock, h]
    rw [handed_receiving_isSome, discardFrame_withLrx, discardFrame_withLineLock]
    rfl

/-! ### The judgement at END (R10) -/

theorem judgeFrame_of_no_header (s : State) {f : Assembly} (h : f.header = none) :
    s.judgeFrame f = s.withLrx (s.lrx.move .ready s.lrx.counters.lengthError) := by
  simp [State.judgeFrame, h]

theorem judgeFrame_of_length_ne (s : State) {f : Assembly} {h : Header} (hf : f.header = some h)
    (hn : f.octets.length ≠ 7 + h.length) :
    s.judgeFrame f = (s.discardFrame f).withLrx (s.lrx.move .ready s.lrx.counters.lengthError) := by
  simp [State.judgeFrame, hf, hn, discardFrame_withLrx]

theorem judgeFrame_of_check_ne (s : State) {f : Assembly} {h : Header} (hf : f.header = some h)
    (hn : f.octets.length = 7 + h.length) (hc : field f.octets (5 + h.length) 2 ≠ f.check.toNat) :
    s.judgeFrame f = (s.discardFrame f).withLrx (s.lrx.move .ready s.lrx.counters.checkError) := by
  simp [State.judgeFrame, hf, hn, Assembly.checkMatches, hc, discardFrame_withLrx]

theorem judgeFrame_of_good (s : State) {f : Assembly} {h : Header} (hf : f.header = some h)
    (hn : f.octets.length = 7 + h.length) (hc : field f.octets (5 + h.length) 2 = f.check.toNat) :
    s.judgeFrame f = s.goodFrame f h := by
  simp [State.judgeFrame, hf, hn, Assembly.checkMatches, hc]

/-- R10: what LRX holds after a good frame, by its disposition. -/
def Lrx.afterGood (l : Lrx) (h : Header) (payload : List Octet) : Lrx :=
  let good := l.move .ready l.counters.good
  match h.disposition with
  | .forward => good
  | .remove => good.move .ready good.counters.returnedFrame
  | .consume | .consumeAndForward => good.consume h payload

theorem afterGood_of_forward (l : Lrx) {h : Header} (hd : h.disposition = .forward) (p : List Octet) :
    l.afterGood h p = l.move .ready l.counters.good := by
  simp [Lrx.afterGood, hd]

theorem afterGood_of_remove (l : Lrx) {h : Header} (hd : h.disposition = .remove) (p : List Octet) :
    l.afterGood h p = l.move .ready l.counters.good.returnedFrame := by
  simp [Lrx.afterGood, hd, Lrx.move]

theorem afterGood_of_consumed (l : Lrx) {h : Header}
    (hd : h.disposition = .consume ∨ h.disposition = .consumeAndForward) (p : List Octet) :
    l.afterGood h p = (l.move .ready l.counters.good).consume h p := by
  rcases hd with hd | hd <;> simp [Lrx.afterGood, hd]

/-- R10: the end notice of a good frame reaches LTX only, and its disposition decides what LRX does with it. -/
theorem goodFrame_eq (s : State) (f : Assembly) (h : Header) :
    s.goodFrame f h =
      (if f.handsOver then s.endNotice else s).withLrx (s.lrx.afterGood h (f.payload h)) := by
  have hnotice : ∀ l, (if f.handsOver then (s.withLrx l).endNotice else s.withLrx l) =
      (if f.handsOver then s.endNotice else s).withLrx l := by
    intro l
    rw [endNotice_withLrx]
    split <;> rfl
  simp only [State.goodFrame, hnotice, State.withLrx_lrx, Lrx.afterGood]
  cases h.disposition <;> rfl

/-! ### Consumption into the two queues (R15 to R19) -/

theorem takeSensor_of_room {l : Lrx} (e : SensorEntry) (h : l.intake.length < 8) :
    l.takeSensor e = { l with intake := l.intake ++ [e] } := if_pos h

/-- R17: a full intake queue has its tail entry replaced. -/
theorem takeSensor_of_full {l : Lrx} (e old : SensorEntry) {older : List SensorEntry}
    (hl : l.intake = older ++ [old]) (h : 8 ≤ l.intake.length) :
    l.takeSensor e = { l with intake := older ++ [e.replacing old], counters := l.counters.overrun } := by
  rw [Lrx.takeSensor, if_neg (Nat.not_lt.mpr h), hl]
  simp

/-- R17: the mark of the entry replaced is kept when the new entry carries none. -/
theorem replacing_eq (new old : SensorEntry) :
    new.replacing old =
      { new with overrun := true, markId := if new.markId = none then old.markId else new.markId } := by
  cases h : new.markId <;> simp [SensorEntry.replacing, h]

theorem takeCommand_of_room {l : Lrx} (e : CommandEntry) (h : l.commands.length < 4) :
    l.takeCommand e = { l with commands := l.commands ++ [e] } := if_pos h

theorem takeCommand_of_full {l : Lrx} (e : CommandEntry) (h : 4 ≤ l.commands.length) :
    l.takeCommand e = { l with counters := l.counters.commandDropped } := if_neg (Nat.not_lt.mpr h)

theorem consume_sensor (l : Lrx) {h : Header} {p : List Octet} (hk : h.kind = 0x31) (hp : p.length = 38) :
    l.consume h p = l.takeSensor (sensorEntry p) := (if_pos hk).trans (if_pos hp)

theorem consume_sensor_of_length_ne (l : Lrx) {h : Header} {p : List Octet} (hk : h.kind = 0x31)
    (hp : p.length ≠ 38) : l.consume h p = { l with counters := l.counters.lengthError } :=
  (if_pos hk).trans (if_neg hp)

theorem consume_command (l : Lrx) {h : Header} (p : List Octet) (hk : h.kind = 0x32) :
    l.consume h p =
      l.takeCommand { source := h.source, broadcast := decide (h.destination = 255), payload := p } := by
  have hs : h.kind ≠ kindSensor := hk ▸ (by decide : kindCommand ≠ kindSensor)
  exact (if_neg hs).trans (if_pos hk)

theorem consume_unknown (l : Lrx) {h : Header} (p : List Octet) (hs : h.kind ≠ 0x31) (hc : h.kind ≠ 0x32) :
    l.consume h p = { l with counters := l.counters.unknown } :=
  (if_neg hs).trans (if_neg hc)

/-! ### Fields inside a payload (R196) -/

theorem field_lt (os : List Octet) (k w : Nat) : field os k w < 256 ^ w :=
  (natOf_lt _).trans_le (Nat.pow_le_pow_right (by decide) (List.length_take_le _ _))

/-- R196: a field is its first octets and then the others, high octet first. -/
theorem field_add (os : List Octet) (k a b : Nat) (h : k + a + b ≤ os.length) :
    field os k (a + b) = field os k a * 256 ^ b + field os (k + a) b := by
  have hlen : ((os.drop (k + a)).take b).length = b := by
    simp only [List.length_take, List.length_drop]
    omega
  simp only [field, List.take_add, List.drop_drop, natOf_append, hlen]

theorem field_one (os : List Octet) (k : Nat) (h : k < os.length) : field os k 1 = (os.getD k 0).toNat := by
  rw [field, List.drop_eq_getElem_cons h, List.take_succ_cons, natOf_cons, List.getD_eq_getElem os 0 h]
  simp [natOf]

theorem field_two (os : List Octet) (k : Nat) (h : k + 2 ≤ os.length) :
    field os k 2 = 256 * (os.getD k 0).toNat + (os.getD (k + 1) 0).toNat := by
  rw [field_add os k 1 1 h, field_one os k (by omega), field_one os (k + 1) (by omega), pow_one, Nat.mul_comm]

theorem field_four (os : List Octet) (k : Nat) (h : k + 4 ≤ os.length) :
    field os k 4 = 65536 * field os k 2 + field os (k + 2) 2 := by
  rw [field_add os k 2 2 h, Nat.mul_comm]
  norm_num

theorem signedField_two (os : List Octet) (k : Nat) :
    signedField os k 2 = if field os k 2 < 32768 then (field os k 2 : Int) else (field os k 2 : Int) - 65536 := by
  unfold signedField
  split <;> split <;> omega

/-! ### The entry of a SENSOR payload (R16, R196) -/

theorem sensorEntry_tach (p : List Octet) : (sensorEntry p).tach.toNat = field p 0 4 := by
  simpa [sensorEntry] using field_lt p 0 4

theorem sensorEntry_timestamp (p : List Octet) : (sensorEntry p).timestamp.toNat = field p 4 4 := by
  simpa [sensorEntry] using field_lt p 4 4

theorem sensorEntry_sequence (p : List Octet) : (sensorEntry p).sequence.toNat = field p 8 2 := by
  simpa [sensorEntry] using field_lt p 8 2

theorem sensorEntry_sensorValid (p : List Octet) (n : Fin 12) :
    (sensorEntry p).sensorValid.getLsbD n.val = (field p 12 2).testBit n.val := by
  simp only [sensorEntry, BitVec.getLsbD_ofNat, n.isLt, decide_true, Bool.true_and]

theorem sensorEntry_raw (p : List Octet) (n : Fin 12) :
    (sensorEntry p).raw[n] = signedField p (14 + 2 * n.val) 2 := by
  simp [sensorEntry]

end Sys2Proof.Machine

/-! The statements about the frame link receiver, chapter 1 of the manual. -/

namespace Sys2Proof.Proofs

open Sys2Proof Sys2Proof.Machine

/-- Settles O6, arrival by arrival in READY and in HUNT, then loss of lock and its return. -/
theorem arrivalsOutsideAFrameAndLossOfLock : Obligations.ArrivalsOutsideAFrameAndLossOfLock := by
  refine ⟨fun s hlock => ⟨fun hready => ⟨?_, ?_, fun b => ?_, ?_⟩, fun hhunt => ⟨?_, ?_, ?_⟩⟩, fun s => ?_,
    fun s hlost => ?_, fun s => rfl, fun s hhunt => ?_⟩
  · rw [exec_idle_of_locked hlock, arriveIdle_of_ready hready]
  · rw [exec_start_of_locked hlock, arriveStart_of_ready hready]
    rfl
  · rw [exec_dataOctet_of_locked hlock, arriveOctet_of_ready hready]
    rfl
  · rintro c (rfl | rfl)
    · rw [exec_endFrame_of_locked hlock, arriveEnd_of_ready hready, Lrx.move_ready_of_ready hready]
      rfl
    · rw [exec_abort_of_locked hlock, arriveAbort_of_ready hready, Lrx.move_ready_of_ready hready]
      rfl
  · rw [exec_idle_of_locked hlock, arriveIdle_of_hunt hhunt]
    rfl
  · rw [exec_start_of_locked hlock, arriveStart_of_hunt hhunt]
    rfl
  · rintro c (⟨b, rfl⟩ | rfl | rfl)
    · rw [exec_dataOctet_of_locked hlock, arriveOctet_of_hunt hhunt]
    · rw [exec_endFrame_of_locked hlock, arriveEnd_of_hunt hhunt]
    · rw [exec_abort_of_locked hlock, arriveAbort_of_hunt hhunt]
  · exact congrArg Host.Outcome.next (loseLock_eq s)
  · rintro c (⟨b, rfl⟩ | rfl | rfl | rfl | rfl)
    · exact whileLocked_of_unlocked hlost (·.arriveOctet b)
    · exact whileLocked_of_unlocked hlost State.arriveIdle
    · exact whileLocked_of_unlocked hlost State.arriveStart
    · exact whileLocked_of_unlocked hlost State.arriveEnd
    · exact whileLocked_of_unlocked hlost State.arriveAbort
  · rintro c (rfl | rfl)
    · exact ⟨_, (exec_idle_of_locked rfl).trans (congrArg _ (arriveIdle_of_hunt hhunt)), nofun, rfl⟩
    · exact ⟨_, (exec_start_of_locked rfl).trans (congrArg _ (arriveStart_of_hunt hhunt)), nofun, rfl⟩

/-- Settles O7: each symbol discards the frame, and the drop notice touches nothing of LRX. -/
theorem controlSymbolsEndTheOpenFrame : Obligations.ControlSymbolsEndTheOpenFrame := by
  intro s f hlock hf
  refine ⟨?_, ?_, ?_⟩
  · rw [exec_abort_of_locked hlock, arriveAbort_of_receiving hf, discardFrame_withLrx]
    rfl
  · rw [exec_idle_of_locked hlock, arriveIdle_of_receiving hf, discardFrame_withLrx]
    rfl
  · rw [exec_start_of_locked hlock, arriveStart_of_receiving hf, discardFrame_withLrx]
    rfl

/-- Settles O9, by the branches of the judgement; a good frame goes by its disposition. -/
theorem endJudgesTheFrame : Obligations.EndJudgesTheFrame := by
  intro s f hlock hf
  rw [exec_endFrame_of_locked hlock, arriveEnd_of_receiving hf]
  refine ⟨fun hnone => ?_, fun h hsome => ⟨fun hlen => ?_, fun hlen hcheck => ?_, fun hlen hcheck => ?_⟩⟩
  · rw [judgeFrame_of_no_header s hnone]
    rfl
  · rw [judgeFrame_of_length_ne s hsome hlen]
    rfl
  · rw [judgeFrame_of_check_ne s hsome hlen hcheck]
    rfl
  · rw [judgeFrame_of_good s hsome hlen hcheck, goodFrame_eq]
    refine ⟨fun hd => ?_, fun hd => ?_, fun hd => ?_⟩
    · rw [afterGood_of_forward s.lrx hd]
      rfl
    · rw [afterGood_of_remove s.lrx hd]
      rfl
    · rw [afterGood_of_consumed s.lrx hd]
      rfl

/-- Settles O10: the kind picks the queue, the queue's room picks the outcome, and every field of the entry is read from
its place in the payload. -/
theorem goodFramesAreConsumedByKind : Obligations.GoodFramesAreConsumedByKind := by
  refine ⟨fun l h p => ⟨consume_sensor l, consume_sensor_of_length_ne l, fun hk hroom => ?_, fun hk hfull => ?_,
    consume_unknown l p⟩, fun l e => takeSensor_of_room e, fun l e old older hl hfull => ?_, fun p hp => ?_⟩
  · rw [consume_command l p hk, takeCommand_of_room _ hroom]
  · rw [consume_command l p hk, takeCommand_of_full _ hfull]
    rfl
  · rw [takeSensor_of_full e old hl hfull, replacing_eq]
    rfl
  · intro e octet pair quad
    have hpair : ∀ k, k + 2 ≤ 38 → field p k 2 = pair k := fun k hk => field_two p k (hp ▸ hk)
    have hquad : ∀ k, k + 4 ≤ 38 → field p k 4 = quad k := fun k hk => by
      rw [field_four p k (hp ▸ hk), hpair k (by omega), hpair (k + 2) (by omega)]
    refine ⟨?_, ?_, ?_, ?_, fun n => ?_, fun n => ?_, rfl⟩
    · rw [sensorEntry_tach, hquad 0 (by decide)]
    · rw [sensorEntry_timestamp, hquad 4 (by decide)]
    · rw [sensorEntry_sequence, hpair 8 (by decide)]
    · rw [← hpair 10 (by decide)]
      rfl
    · rw [sensorEntry_sensorValid, hpair 12 (by decide)]
    · rw [sensorEntry_raw, signedField_two, hpair (14 + 2 * n.val) (by omega)]

end Sys2Proof.Proofs

/-! SUPPORT. When a frame event takes a record, what it does to the state, what it does at ODO while no base frame is held,
and what the silence timer's expiry does (R57, R58, R79). -/

namespace Sys2Proof.Machine

/-! ### The conditions of the frame event and its effect (R57) -/

theorem recordToTake_of_links_empty {s : State} (h : s.links.odoToLoc = []) : s.recordToTake = s.cal.held := if_pos h

/-- R57: the frame event waits for LOC to take the previous event's items, and for a record at CAL. -/
theorem recordToTake_eq_none_iff (s : State) : s.recordToTake = none ↔ s.links.odoToLoc ≠ [] ∨ s.cal.held = none := by
  by_cases h : s.links.odoToLoc = []
  · simp [recordToTake_of_links_empty h, h]
  · simp [State.recordToTake, h]

theorem frameEvent_of_no_record {s : State} (h : s.recordToTake = none) : s.frameEvent = s := by
  simp [State.frameEvent, h]

/-- R57: a record taken leaves CAL, and only ODO and the links out of it change besides. -/
theorem frameEvent_of_record {s : State} {new : CalFrame} (h : s.recordToTake = some new) :
    s.frameEvent = { s with
      cal := { s.cal with held := none }
      odo := (s.odo.takeFrame s.cmu.config s.measuring s.cmu.runNumber new).1
      links := { s.links with
        odoToLoc := (s.odo.takeFrame s.cmu.config s.measuring s.cmu.runNumber new).2
        reverseRequest :=
          s.odo.requestAfter s.cmu.config s.measuring s.cmu.runNumber new s.links.reverseRequest } } := by
  simp only [State.frameEvent, h]
  rfl

/-! ### The first frame: no base frame is held (R58) -/

/-- R58, R68: the first record becomes the base frame, and its mark, if it carries one, is all that LOC is handed. -/
theorem takeFrame_of_no_base {o : Odo} (h : o.base = none) (c : ConfigRecord) (measuring : Bool) (run : BitVec 8)
    (new : CalFrame) :
    o.takeFrame c measuring run new =
      ({ o with base := some new, silenceTimer := some c.silenceMs }, o.handMark new) := by
  simp only [Odo.takeFrame, h]
  rfl

/-- R58, R66: the first frame has no motion, so it sends no reverse-limit request. -/
theorem requestAfter_of_no_base {o : Odo} (h : o.base = none) (c : ConfigRecord) (measuring : Bool) (run : BitVec 8)
    (new : CalFrame) (waiting : Option (BitVec 8)) : o.requestAfter c measuring run new waiting = waiting := by
  simp only [Odo.requestAfter, h]

/-! ### The silence timer (R79) -/

theorem expireSilence_of_stopped {o : Odo} (h : o.silenceTimer = none) (measuring : Bool) :
    o.expireSilence measuring = o := by
  simp only [Odo.expireSilence, h]

theorem expireSilence_of_running {o : Odo} (h : o.silenceTimer ≠ none) (measuring : Bool) :
    o.expireSilence measuring =
      { o with silenceTimer := none, silenceFlag := true, gapPending := o.gapPending || measuring } := by
  obtain ⟨ms, hms⟩ := Option.ne_none_iff_exists'.mp h
  simp only [Odo.expireSilence, hms]

end Sys2Proof.Machine

/-! The statements about odometry and spatial sampling, chapter 4 of the manual. -/

namespace Sys2Proof.Proofs

open Sys2Proof Sys2Proof.Machine

/-- Settles O29: the frame event by whether a record can be taken, the expiry by whether the timer runs. -/
theorem theFirstFrameIsTheBaseAndSilenceExpires : Obligations.TheFirstFrameIsTheBaseAndSilenceExpires := by
  refine ⟨⟨fun s new hlinks hheld hbase => ?_, fun s hwait => ?_⟩, fun s => ⟨fun hstopped => ?_, fun hrunning => ?_⟩⟩
  · have htake : s.recordToTake = some new := (recordToTake_of_links_empty hlinks).trans hheld
    refine congrArg Host.Outcome.next ?_
    rw [frameEvent_of_record htake, takeFrame_of_no_base hbase, requestAfter_of_no_base hbase]
    rfl
  · exact congrArg Host.Outcome.next (frameEvent_of_no_record ((recordToTake_eq_none_iff s).mpr hwait))
  · exact congrArg (Host.Outcome.next ∘ s.withOdo) (expireSilence_of_stopped hstopped s.measuring)
  · exact congrArg (Host.Outcome.next ∘ s.withOdo) (expireSilence_of_running hrunning s.measuring)

end Sys2Proof.Proofs

/-! SUPPORT. How a command addressed to the part is answered, and what each mark command does to LOC in each of its cases
(R27, R91, R92). -/

namespace Sys2Proof.Machine

/-! ### A command addressed to the part (R25 to R27) -/

/-- R25 to R27: a command addressed to the part, with its length and the run state right, is carried out and answered with
the owning block's reply. -/
theorem State.CanTake.run_addressed {s : State} {source code : Octet} {tag : Half} {xs : List Octet}
    {rest : List CommandEntry} (h : s.CanTake (commandEntry source false code tag xs) rest) {row : Instr} {n : Nat}
    (hn : commandCode? code = some (row, n)) (hl : xs.length = n) {allowed : RunState → Bool}
    (ha : allowed s.cmu.runState = true) {act : CommandEntry → State → State × Reply} {t : State} {r : Reply}
    (hact : act (commandEntry source false code tag xs) (s.taken rest) = (t, r)) :
    s.runCommand row allowed act = t.responded source code tag r.status r.results := by
  rw [h.run (commandEntry_row hn nofun) hn hl ha, hact, answer_addressed]

/-! ### The fields of a mark command (R91, R196) -/

/-- R91: the arguments of WRITE MARK: the id, the position and the window. -/
def markArguments (q : Nat) (m : MarkEntry) : List Octet :=
  octetsOf 2 q ++ (octetsOf 4 m.position ++ octetsOf 2 m.window)

theorem markArguments_length (q : Nat) (m : MarkEntry) : (markArguments q m).length = 8 := by
  simp [markArguments]

theorem field_markArguments_id {q : Nat} (h : q < 65536) (m : MarkEntry) : field (markArguments q m) 0 2 = q :=
  field_octetsOf 2 q _ h

theorem signedField_markArguments_position (q : Nat) {m : MarkEntry} (hlo : -2147483648 ≤ m.position)
    (hhi : m.position ≤ 2147483647) : signedField (markArguments q m) 2 4 = m.position := by
  rw [markArguments, signedField_append_right _ _ _ _ (by simp), octetsOf_length]
  exact signedField_of_front 4 m.position _ (by omega) (by omega)

theorem field_markArguments_window (q : Nat) {m : MarkEntry} (h : m.window < 65536) :
    field (markArguments q m) 6 2 = m.window := by
  rw [markArguments, field_append_right _ _ _ _ (by simp), field_append_right _ _ _ _ (by simp), octetsOf_length,
    octetsOf_length]
  exact field_octetsOf_last 2 m.window h

/-- R91: the entry WRITE MARK writes is the one its arguments carry. -/
theorem entry_of_markArguments (q : Nat) {m : MarkEntry} (hlo : -2147483648 ≤ m.position)
    (hhi : m.position ≤ 2147483647) (hw : m.window < 65536) :
    ({ position := signedField (markArguments q m) 2 4, window := field (markArguments q m) 6 2 } : MarkEntry) = m := by
  rw [signedField_markArguments_position q hlo hhi, field_markArguments_window q hw]

/-! ### The mark commands at LOC, case by case (R91, R92) -/

/-- R90: id 0, which no mark carries, has no entry in a lawful table. -/
theorem Loc.Lawful.markEntry?_zero {l : Loc} (h : l.Lawful) : markEntry? l.marks 0 = none :=
  markEntry?_of_below fun p hp => (h.markIds p hp).1

section
variable {e : CommandEntry} {s : State} {q : Nat}

theorem writeMark_of_zero (hid : field e.args 0 2 = 0) : writeMark e s = (s, .refuse .badArg) :=
  if_pos hid

theorem writeMark_of_full (hid : field e.args 0 2 = q) (hne : q ≠ 0) (hnone : markEntry? s.loc.marks q = none)
    (hfull : 256 ≤ s.loc.marks.length) : writeMark e s = (s, .refuse .full) := by
  subst hid
  exact (if_neg hne).trans (if_pos ⟨hnone, hfull⟩)

theorem writeMark_of_room (hid : field e.args 0 2 = q) (hne : q ≠ 0)
    (hroom : markEntry? s.loc.marks q ≠ none ∨ s.loc.marks.length < 256) {m : MarkEntry}
    (hm : { position := signedField e.args 2 4, window := field e.args 6 2 } = m) :
    writeMark e s = (s.withLoc { s.loc with marks := markInsert s.loc.marks q m },
      .done (octetsOf 2 (markInsert s.loc.marks q m).length)) := by
  subst hid hm
  exact (if_neg hne).trans (if_neg fun ⟨hnone, hfull⟩ => hroom.elim (· hnone) (Nat.not_lt.mpr hfull))

theorem deleteMark_of_zero (hid : field e.args 0 2 = 0) : deleteMark e s = (s, .refuse .badArg) :=
  if_pos hid

theorem deleteMark_of_none (hid : field e.args 0 2 = q) (hne : q ≠ 0) (hnone : markEntry? s.loc.marks q = none) :
    deleteMark e s = (s, .refuse .notFound) := by
  subst hid
  exact (if_neg hne).trans (if_pos hnone)

theorem deleteMark_of_held (hid : field e.args 0 2 = q) (hne : q ≠ 0) (hheld : markEntry? s.loc.marks q ≠ none) :
    deleteMark e s = (s.withLoc { s.loc with marks := markErase s.loc.marks q },
      .done (octetsOf 2 (markErase s.loc.marks q).length)) := by
  subst hid
  exact (if_neg hne).trans (if_neg hheld)

theorem clearMarks_eq : clearMarks e s = (s.withLoc { s.loc with marks := [] }, .done (octetsOf 2 0)) := rfl

theorem readMark_of_zero (hid : field e.args 0 2 = 0) : readMark e s = (s, .refuse .badArg) :=
  if_pos hid

theorem readMark_of_none (hid : field e.args 0 2 = q) (hne : q ≠ 0) (hnone : markEntry? s.loc.marks q = none) :
    readMark e s = (s, .refuse .notFound) := by
  simp only [readMark, hid, if_neg hne, hnone]

theorem readMark_of_some (hid : field e.args 0 2 = q) (hne : q ≠ 0) {m : MarkEntry}
    (hsome : markEntry? s.loc.marks q = some m) :
    readMark e s =
      (s, .done (octetsOf 4 m.position ++ octetsOf 2 m.window ++ octetsOf 2 s.loc.marks.length)) := by
  simp only [readMark, hid, if_neg hne, hsome]

end

/-! ### Each mark command taken from the queue and answered (R25 to R27) -/

section
variable {s t : State} {source : Octet} {tag : Half} {xs : List Octet} {rest : List CommandEntry} {r : Reply}

theorem exec_writeMark_of_taken (h : s.CanTake (commandEntry source false 0x50 tag xs) rest) (hl : xs.length = 8)
    (hr : writeMark (commandEntry source false 0x50 tag xs) (s.taken rest) = (t, r)) :
    exec .writeMark s = .next (t.responded source 0x50 tag r.status r.results) :=
  congrArg Host.Outcome.next (h.run_addressed rfl hl rfl hr)

theorem exec_deleteMark_of_taken (h : s.CanTake (commandEntry source false 0x51 tag xs) rest) (hl : xs.length = 2)
    (hr : deleteMark (commandEntry source false 0x51 tag xs) (s.taken rest) = (t, r)) :
    exec .deleteMark s = .next (t.responded source 0x51 tag r.status r.results) :=
  congrArg Host.Outcome.next (h.run_addressed rfl hl rfl hr)

theorem exec_clearMarks_of_taken (h : s.CanTake (commandEntry source false 0x52 tag []) rest) :
    exec .clearMarks s = .next (((s.taken rest).withLoc { s.loc with marks := [] }).responded source 0x52 tag .ok
      (octetsOf 2 0)) :=
  congrArg Host.Outcome.next (h.run_addressed rfl rfl rfl clearMarks_eq)

theorem exec_readMark_of_taken (h : s.CanTake (commandEntry source false 0x53 tag xs) rest) (hl : xs.length = 2)
    (hr : readMark (commandEntry source false 0x53 tag xs) (s.taken rest) = (t, r)) :
    exec .readMark s = .next (t.responded source 0x53 tag r.status r.results) :=
  congrArg Host.Outcome.next (h.run_addressed rfl hl rfl hr)

end

end Sys2Proof.Machine

/-! The statements about location, marks and sections, chapter 5 of the manual. -/

namespace Sys2Proof.Proofs

open Sys2Proof Sys2Proof.Machine

/-- Settles O32: each command is taken and answered with LOC's reply, which goes by the id and the table; the table
afterwards is markInsert's or markErase's. -/
theorem markTableFollowsItsCommands : Obligations.MarkTableFollowsItsCommands := by
  intro s source tag rest q hq hlaw
  have hid {c} : field (commandEntry source false c tag (octetsOf 2 q)).args 0 2 = q :=
    (commandEntry_args ..).symm ▸ field_octetsOf_last 2 q hq
  have hlen : (octetsOf 2 q).length = 2 := octetsOf_length 2 q
  refine ⟨fun m hlo hhi hw hwrite => ?_, fun hdelete => ?_, fun hclear => exec_clearMarks_of_taken hclear,
    fun hread => ?_⟩
  · have hargs := commandEntry_args source false 0x50 tag (markArguments q m)
    have hidm : field (commandEntry source false 0x50 tag (markArguments q m)).args 0 2 = q :=
      hargs.symm ▸ field_markArguments_id hq m
    have hlenm := markArguments_length q m
    refine ⟨fun hzero => ?_, fun hne hnone hfull => ?_, fun hne hroom => ?_⟩
    · exact exec_writeMark_of_taken hwrite hlenm (writeMark_of_zero (hidm.trans hzero))
    · exact exec_writeMark_of_taken hwrite hlenm (writeMark_of_full hidm hne hnone hfull)
    · have hm := hargs.symm ▸ entry_of_markArguments q hlo hhi hw
      exact ⟨markInsert s.loc.marks q m,
        exec_writeMark_of_taken hwrite hlenm (writeMark_of_room (s := s.taken rest) hidm hne hroom hm),
        markEntry?_markInsert q m, length_markInsert hlaw.markKeys q m⟩
  · refine ⟨fun hzero => ?_, fun hne hnone => ?_, fun hne hheld => ?_⟩
    · exact exec_deleteMark_of_taken hdelete hlen (deleteMark_of_zero (hid.trans hzero))
    · exact exec_deleteMark_of_taken hdelete hlen (deleteMark_of_none hid hne hnone)
    · exact ⟨markErase s.loc.marks q, exec_deleteMark_of_taken hdelete hlen (deleteMark_of_held hid hne hheld),
        markEntry?_markErase s.loc.marks q, length_markErase hlaw.markKeys q hheld⟩
  · refine ⟨fun hzero => ?_, fun hne hnone => ?_, fun m hsome => ?_⟩
    · exact exec_readMark_of_taken hread hlen (readMark_of_zero (hid.trans hzero))
    · exact exec_readMark_of_taken hread hlen (readMark_of_none hid hne hnone)
    · have hne : q ≠ 0 := by
        rintro rfl
        exact Option.some_ne_none m (hsome.symm.trans hlaw.markEntry?_zero)
      exact exec_readMark_of_taken hread hlen (readMark_of_some hid hne hsome)

end Sys2Proof.Proofs

/-! SUPPORT. The values MSE computes, kind by kind: the limit of a value, a parameter of a sample, a slot read in the history,
each measure, and the baseline after a row (R108 to R110, R119 to R126). -/

namespace Sys2Proof.Machine

/-! ### The limit of a value (R108, R119) -/

theorem limited_eq (x : Int) (saturated : Bool) :
    limited x saturated =
      { value := max (-1000000) (min x 1000000), valid := true,
        saturated := saturated || decide (x < -1000000 ∨ 1000000 < x) } := by
  have hchanged : (max (-1000000) (min x 1000000) != x) = decide (x < -1000000 ∨ 1000000 < x) := by
    rw [Bool.eq_iff_iff, bne_iff_ne, decide_eq_true_iff]
    omega
  exact congrArg (fun changed => Quantity.mk _ true (saturated || changed)) hchanged

/-! ### A parameter of a sample (R108, R109) -/

section

variable {e : ParameterEntry} {table : Vector ChannelEntry 12} {x : Sample}

theorem invalidIn_iff (t : Term) (table : Vector ChannelEntry 12) (x : Sample) :
    t.invalidIn table x = true ↔
      (x.channels[t.channel]).valid = false ∨ ((table[t.channel]).inertial = true ∧ x.lowSpeed = true) := by
  simp [Term.invalidIn]

theorem compute_of_invalid (h : e.terms = [] ∨ ∃ t ∈ e.terms, t.invalidIn table x = true) :
    e.compute table x = .invalid := by
  refine if_pos ?_
  simpa only [Bool.or_eq_true, List.isEmpty_iff, List.any_eq_true] using h

theorem compute_of_valid (hne : e.terms ≠ []) (h : ∀ t ∈ e.terms, ¬t.invalidIn table x = true) :
    e.compute table x = limited (nearest (weightedSum e.terms x.channels) 256 + e.k)
      (e.terms.any fun t => (x.channels[t.channel]).saturated) := by
  refine if_neg ?_
  rw [Bool.or_eq_true, List.isEmpty_iff, List.any_eq_true]
  rintro (hnil | ⟨t, ht, hbad⟩)
  · exact hne hnil
  · exact h t ht hbad

end

/-! ### The history (R110, R119) -/

theorem slotAt_eq_some {x : Mse} {j : Int} {t : Slot} :
    x.slotAt j = some t ↔ 0 ≤ j ∧ x.history[slotNumber j.toNat] = some t ∧ t.index.toNat = j.toNat := by
  unfold Mse.slotAt
  split
  case isTrue hneg => simp [hneg]
  case isFalse hpos =>
    have hj : 0 ≤ j := not_lt.mp hpos
    cases x.history[slotNumber j.toNat] with
    | none => simp
    | some z =>
      simp only [hj, true_and, Option.ite_none_right_eq_some, Option.some.injEq]
      constructor
      · rintro ⟨hindex, rfl⟩
        exact ⟨rfl, hindex⟩
      · rintro ⟨rfl, hindex⟩
        exact ⟨hindex, rfl⟩

theorem read_eq_some {x : Mse} {p : Fin 10} {j : Int} {q : Quantity} :
    x.read p j = some q ↔ ∃ t, x.slotAt j = some t ∧ t.parameters[p] = q ∧ q.valid = true := by
  unfold Mse.read
  cases x.slotAt j with
  | none => simp
  | some t =>
    simp only [Option.ite_none_right_eq_some, Option.some.injEq, exists_eq_left']
    constructor
    · rintro ⟨hvalid, rfl⟩
      exact ⟨rfl, hvalid⟩
    · rintro ⟨rfl, hvalid⟩
      exact ⟨hvalid, rfl⟩

/-! ### Each measure kind (R119 to R124) -/

section

variable {x : Mse} {p : Fin 10} {l : Nat} {o : Int} {a q b : Quantity}

theorem chord_of_reads (ha : x.read p (o - (l / 2 : Nat)) = some a) (hq : x.read p o = some q)
    (hb : x.read p (o + (l / 2 : Nat)) = some b) :
    x.chord p l o = limited (nearest (2 * q.value - b.value - a.value) 2) (a.saturated || q.saturated || b.saturated) := by
  simp only [Mse.chord, ha, hq, hb]

theorem chord_of_absent
    (h : x.read p (o - (l / 2 : Nat)) = none ∨ x.read p o = none ∨ x.read p (o + (l / 2 : Nat)) = none) :
    x.chord p l o = .invalid := by
  unfold Mse.chord
  split
  · next ha hq hb => simp only [ha, hq, hb, reduceCtorEq, or_self] at h
  · rfl

theorem twist_of_reads (ha : x.read p (o - (l / 2 : Nat)) = some a) (hb : x.read p (o + (l / 2 : Nat)) = some b) :
    x.twist p l o = limited (b.value - a.value) (a.saturated || b.saturated) := by
  simp only [Mse.twist, ha, hb]

theorem twist_of_absent (h : x.read p (o - (l / 2 : Nat)) = none ∨ x.read p (o + (l / 2 : Nat)) = none) :
    x.twist p l o = .invalid := by
  unfold Mse.twist
  split
  · next ha hb => simp only [ha, hb, reduceCtorEq, or_self] at h
  · rfl

theorem deviation_of_absent (h : x.read p o = none) (reference : Option Int) :
    x.deviation p reference o = .invalid := by
  simp only [Mse.deviation, h]

theorem deviation_of_no_reference {reference : Option Int} (hq : x.read p o = some q) (hr : reference = none) :
    x.deviation p reference o = limited 0 q.saturated := by
  simp only [Mse.deviation, hq, hr, Option.getD_none, sub_self]

theorem deviation_of_reference {reference : Option Int} {r : Int} (hq : x.read p o = some q) (hr : reference = some r) :
    x.deviation p reference o = limited (q.value - r) q.saturated := by
  simp only [Mse.deviation, hq, hr, Option.getD_some]

end

/-! ### Which kind a measure goes by (R119, R123, R124) -/

section

variable {x : Mse} {m : Fin 16} {p : Fin 10} (o : Int) (cant : Option Int)

theorem measure_of_disabled (h : x.measures[m] = .disabled) : x.measure m o cant = .invalid := by
  simp only [Mse.measure, h]

theorem measure_of_direct (h : x.measures[m] = .direct p) :
    x.measure m o cant = (x.read p o).getD .invalid := by
  simp only [Mse.measure, h]

theorem measure_of_chord {l : Nat} (h : x.measures[m] = .chord p l) : x.measure m o cant = x.chord p l o := by
  simp only [Mse.measure, h]

theorem measure_of_twist {l : Nat} (h : x.measures[m] = .twist p l) : x.measure m o cant = x.twist p l o := by
  simp only [Mse.measure, h]

/-- R123, R124: both kinds deviate from the baseline; CANT_DEVIATION from the section's cant where there is one. -/
theorem measure_of_seeded {beta g : Nat}
    (h : x.measures[m] = .deviation p beta g ∨ x.measures[m] = .cantDeviation p beta g) :
    x.measure m o cant = x.deviation p
      (if x.measures[m] = .cantDeviation p beta g ∧ cant ≠ none then cant else x.baselines[m]) o := by
  rcases h with h | h
  · simp [Mse.measure, h]
  · cases cant <;> simp [Mse.measure, h]

end

/-! ### Baselines (R125, R126) -/

theorem halts_iff (d : DetectorMode) : d.halts = true ↔ d = .active ∨ d = .latched := by
  cases d <;> simp [DetectorMode.halts]

theorem halted_iff (x : Mse) (detectors : Vector Detector 16) (g : Nat) :
    x.halted detectors g = true ↔ g ≠ 0 ∧ ∃ n : Fin 16, (x.measures[n]).haltGroup? = some g ∧
      ((detectors[n]).mode = .active ∨ (detectors[n]).mode = .latched) := by
  simp [Mse.halted, halts_iff]

section

variable {x : Mse} {m : Fin 16} (detectors : Vector Detector 16) (o : Int)

theorem baselineAfter_of_seeded {p : Fin 10} {beta g : Nat}
    (h : x.measures[m] = .deviation p beta g ∨ x.measures[m] = .cantDeviation p beta g) :
    x.baselineAfter detectors m o = nextBaseline (x.baselines[m]) (x.read p o) beta (x.halted detectors g) := by
  rcases h with h | h <;> simp only [Mse.baselineAfter, h]

theorem baselineAfter_of_no_haltGroup (h : (x.measures[m]).haltGroup? = none) :
    x.baselineAfter detectors m o = x.baselines[m] := by
  unfold Mse.baselineAfter
  split
  · next hm => simp [hm, MeasureEntry.haltGroup?] at h
  · next hm => simp [hm, MeasureEntry.haltGroup?] at h
  · rfl

end

theorem nextBaseline_of_absent (b : Option Int) (beta : Nat) (halted : Bool) : nextBaseline b none beta halted = b := by
  cases b <;> rfl

theorem nextBaseline_of_unseeded (q : Quantity) (beta : Nat) (halted : Bool) :
    nextBaseline none (some q) beta halted = some q.value := rfl

theorem nextBaseline_of_halted (b : Int) (q : Quantity) (beta : Nat) : nextBaseline (some b) (some q) beta true = some b := rfl

theorem nextBaseline_of_running (b : Int) (q : Quantity) (beta : Nat) :
    nextBaseline (some b) (some q) beta false = some (b + Int.tdiv (q.value - b) (2 ^ beta)) := by
  rw [← Nat.cast_two, ← Nat.cast_pow]
  rfl

/-- A quotient truncated toward zero lies between zero and the dividend. -/
theorem tdiv_between_zero_and_self (d : Int) {n : Int} (hn : 0 < n) : min 0 d ≤ d.tdiv n ∧ d.tdiv n ≤ max 0 d := by
  rcases le_total 0 d with hd | hd
  · have hlo := Int.tdiv_nonneg hd hn.le
    have hhi := Int.tdiv_le_self n hd
    omega
  · have hlo := Int.tdiv_nonneg (neg_nonneg.mpr hd) hn.le
    have hhi := Int.tdiv_le_self n (neg_nonneg.mpr hd)
    rw [Int.neg_tdiv] at hlo hhi
    omega

/-- R125: a baseline moves toward the value and never past it. -/
theorem baseline_moves_toward (b v : Int) (beta : Nat) :
    min b v ≤ b + Int.tdiv (v - b) (2 ^ beta) ∧ b + Int.tdiv (v - b) (2 ^ beta) ≤ max b v := by
  have hmove := tdiv_between_zero_and_self (v - b) (pow_pos (zero_lt_two' ℤ) beta)
  omega

end Sys2Proof.Machine

/-! The statements about parameters, sample history and measures, chapter 6 of the manual. -/

namespace Sys2Proof.Proofs

open Sys2Proof Sys2Proof.Machine

/-- Settles O40: each value by the cases of its rule; a measure and a baseline by the kind of the measure's entry. -/
theorem measuresAndBaselinesFollowTheirRules : Obligations.MeasuresAndBaselinesFollowTheirRules := by
  refine ⟨fun e table x => ⟨fun hbad => ?_, fun hne hgood => ?_⟩, fun x p j q => ?_, fun x m o cant => ?_,
    fun x detectors m o => ⟨fun p beta g hkind => ?_, baselineAfter_of_no_haltGroup detectors o⟩⟩
  · exact compute_of_invalid (by simpa only [invalidIn_iff] using hbad)
  · exact (compute_of_valid hne (by simpa only [invalidIn_iff] using hgood)).trans (limited_eq ..)
  · rw [read_eq_some]
    constructor
    · rintro ⟨t, hslot, hq, hvalid⟩
      obtain ⟨hj, hhistory, hindex⟩ := slotAt_eq_some.mp hslot
      exact ⟨hj, t, hhistory, hindex, hq, hvalid⟩
    · rintro ⟨hj, t, hhistory, hindex, hq, hvalid⟩
      exact ⟨t, slotAt_eq_some.mpr ⟨hj, hhistory, hindex⟩, hq, hvalid⟩
  · refine ⟨measure_of_disabled o cant, fun p hkind => ?_, fun p l hkind => ?_, fun p l hkind => ?_,
      fun p beta g hkind => ?_⟩
    · rw [measure_of_direct o cant hkind]
      exact ⟨fun hnone => by rw [hnone]; rfl, fun q hq => by rw [hq]; rfl⟩
    · rw [measure_of_chord o cant hkind]
      exact ⟨fun a q b ha hq hb => (chord_of_reads ha hq hb).trans (limited_eq ..), chord_of_absent⟩
    · rw [measure_of_twist o cant hkind]
      exact ⟨fun a b ha hb => (twist_of_reads ha hb).trans (limited_eq ..), twist_of_absent⟩
    · intro reference
      rw [measure_of_seeded o cant hkind]
      exact ⟨fun hnone => deviation_of_absent hnone reference,
        fun q hq hr => (deviation_of_no_reference hq hr).trans (limited_eq ..),
        fun q r hq hr => (deviation_of_reference hq hr).trans (limited_eq ..)⟩
  · intro halted
    rw [baselineAfter_of_seeded detectors o hkind]
    refine ⟨fun hnone => by rw [hnone, nextBaseline_of_absent],
      fun q hq => ⟨fun hb => ?_, fun b hb => ⟨fun h => ?_, fun h => ?_⟩⟩⟩
    · rw [hb, hq, nextBaseline_of_unseeded]
    · rw [hb, hq, (halted_iff x detectors g).mpr h, nextBaseline_of_halted]
    · rw [hb, hq, Bool.eq_false_iff.mpr (mt (halted_iff x detectors g).mp h), nextBaseline_of_running]
      exact ⟨rfl, baseline_moves_toward b q.value beta⟩

end Sys2Proof.Proofs

/-! SUPPORT. The events of MSE: what a sample writes, which slot is the output slot, what a sample forms, and when MSE takes
nothing (R105, R111 to R115). -/

namespace Sys2Proof.Machine

/-! ### The output slot and the row formed from it (R113, R115) -/

theorem outputSlot_eq_some {x : Mse} {i : Quad} {delay : Nat} {t : Slot} :
    x.outputSlot i delay = some t ↔
      delay ≤ i.toNat ∧ x.history[slotNumber (i.toNat - delay)] = some t ∧ t.index.toNat = i.toNat - delay := by
  simp only [Mse.outputSlot, slotAt_eq_some, Int.toNat_sub, sub_nonneg, Nat.cast_le]

/-- R113: no row is formed for an index below 0, nor from a slot that is absent or holds another index. -/
theorem outputSlot_eq_none {x : Mse} {i : Quad} {delay : Nat}
    (h : i.toNat < delay ∨
      ∀ t, x.history[slotNumber (i.toNat - delay)] = some t → t.index.toNat ≠ i.toNat - delay) :
    x.outputSlot i delay = none := by
  refine Option.eq_none_iff_forall_ne_some.mpr fun t ht => ?_
  obtain ⟨hdelay, hhistory, hindex⟩ := outputSlot_eq_some.mp ht
  rcases h with hbelow | hother
  · exact absurd hdelay hbelow.not_ge
  · exact hother t hhistory hindex

theorem any_isCantDeviation (measures : Vector MeasureEntry 16) :
    measures.toList.any MeasureEntry.isCantDeviation =
      decide (∃ m : Fin 16, (measures[m]).isCantDeviation = true) := by
  rw [Bool.eq_iff_iff, decide_eq_true_iff, List.any_eq_true]
  constructor
  · rintro ⟨e, he, hkind⟩
    obtain ⟨m, hm, rfl⟩ := Vector.mem_iff_getElem.mp (Vector.mem_toList_iff.mp he)
    exact ⟨⟨m, hm⟩, hkind⟩
  · rintro ⟨m, hkind⟩
    exact ⟨measures[m], Vector.mem_toList_iff.mpr (Vector.getElem_mem m.isLt), hkind⟩

/-! ### What a sample does to MSE (R111) -/

section

variable {x : Mse} {y : LocatedSample} {delay : Nat} (table : Vector ChannelEntry 12) (detectors : Vector Detector 16)

theorem takeSample_of_no_output (h : (x.writeSample table y).outputSlot y.sample.index delay = none) :
    x.takeSample table detectors delay y = (x.writeSample table y, none) := by
  simp only [Mse.takeSample, h]

theorem takeSample_of_output {t : Slot} (h : (x.writeSample table y).outputSlot y.sample.index delay = some t) :
    x.takeSample table detectors delay y =
      ((x.writeSample table y).updateBaselines detectors t.index.toNat,
        some ((x.writeSample table y).rowOf y.sample.run t)) := by
  simp only [Mse.takeSample, h]

end

/-! ### The two events (R105, R111, R112) -/

section

variable {s : State}

theorem sampleEvent_of_no_item (h : s.mseItem = none) : s.sampleEvent = s := by
  simp only [State.sampleEvent, h]

theorem gapEvent_of_no_item (h : s.mseItem = none) : s.gapEvent = s := by
  simp only [State.gapEvent, h]

theorem sampleEvent_of_no_row {y : LocatedSample} {x : Mse} (hitem : s.mseItem = some (.sample y))
    (hkeeps : s.keeps y.sample.run = true)
    (htake : s.mse.takeSample s.cal.channels s.exd.detectors s.cmu.config.alignDelay y = (x, none)) :
    s.sampleEvent = (s.withLinks s.links.takenByMse).withMse x := by
  simp only [State.sampleEvent, hitem, hkeeps, htake, if_true]

theorem sampleEvent_of_row {y : LocatedSample} {x : Mse} {row : Row} (hitem : s.mseItem = some (.sample y))
    (hkeeps : s.keeps y.sample.run = true)
    (htake : s.mse.takeSample s.cal.channels s.exd.detectors s.cmu.config.alignDelay y = (x, some row)) :
    s.sampleEvent = (s.withMse x).withLinks (s.links.takenByMse.handOn (.row row)) := by
  simp only [State.sampleEvent, hitem, hkeeps, htake, if_true]
  rfl

theorem gapEvent_of_kept {run : BitVec 8} (hitem : s.mseItem = some (.gap run)) (hkeeps : s.keeps run = true) :
    s.gapEvent = (s.withMse s.mse.clear).withLinks (s.links.takenByMse.handOn (.gap run)) := by
  simp only [State.gapEvent, hitem, hkeeps, if_true]

/-- R105: while EXD or STU has a row to take, MSE takes nothing. -/
theorem mseItem_of_row_waiting (h : ∃ x, .row x ∈ s.links.mseToExd ∨ .row x ∈ s.links.mseToStu) : s.mseItem = none := by
  have hwaiting {items : List RowItem} {x : Row} (hx : .row x ∈ items) : items.any RowItem.isRow = true :=
    List.any_eq_true.mpr ⟨_, hx, rfl⟩
  refine if_neg ?_
  obtain ⟨x, hx | hx⟩ := h <;> simp [Links.rowsTaken, hwaiting hx]

end

end Sys2Proof.Machine

/-! The statement about the events of MSE, chapter 6 of the manual. -/

namespace Sys2Proof.Proofs

open Sys2Proof Sys2Proof.Machine

/-- Settles O39: a sample kept by R24 is written, and a row goes out exactly when the output slot is found; a gap kept clears
MSE and goes on; a row not yet taken holds both back. -/
theorem sampleEventsWriteHistoryAndFormRows : Obligations.SampleEventsWriteHistoryAndFormRows := by
  refine ⟨fun s y hlink htaken hrun hnumber => ?_, fun s hlink htaken hrun => ?_, fun s hwaiting => ?_⟩
  · have hitem : s.mseItem = some (.sample y) := mseItem_eq_some.mpr ⟨htaken, hlink⟩
    have hkeeps : s.keeps y.sample.run = true := (keeps_iff s _).mpr ⟨hrun, hnumber⟩
    intro i written now delay taken
    refine ⟨fun hno => ?_, fun z hdelay hslot hindex => ?_⟩
    · have hout : (s.mse.writeSample s.cal.channels y).outputSlot i delay = none := outputSlot_eq_none hno
      exact congrArg Host.Outcome.next (sampleEvent_of_no_row hitem hkeeps (takeSample_of_no_output _ _ hout))
    · have hout : (s.mse.writeSample s.cal.channels y).outputSlot i delay = some z :=
        outputSlot_eq_some.mpr ⟨hdelay, hslot, hindex⟩
      refine congrArg Host.Outcome.next ((sampleEvent_of_row hitem hkeeps (takeSample_of_output _ _ hout)).trans ?_)
      rw [Mse.rowOf, any_isCantDeviation, hnumber, hindex]
      rfl
  · have hitem : s.mseItem = some (.gap s.cmu.runNumber) := mseItem_eq_some.mpr ⟨htaken, hlink⟩
    exact congrArg Host.Outcome.next (gapEvent_of_kept hitem ((keeps_iff s _).mpr ⟨hrun, rfl⟩))
  · have hitem := mseItem_of_row_waiting hwaiting
    exact ⟨congrArg Host.Outcome.next (sampleEvent_of_no_item hitem), congrArg Host.Outcome.next (gapEvent_of_no_item hitem)⟩

end Sys2Proof.Proofs

/-! SUPPORT. What WRITE LIMITS and READ LIMITS do at EXD: the fields a request carries, its two passes of checks, the table with
one limit set replaced, and the results read back (R129 to R131, R196). -/

namespace Sys2Proof.Machine

/-! ### The fields of both commands (R130, R131, R196) -/

/-- R130: the fields a WRITE LIMITS request carries, in order; a field may hold any code that fits its octets. -/
structure LimitRequest where
  band : Nat
  measure : Nat
  enter1 : Nat
  enter2 : Nat
  enter3 : Nat
  h : Nat
  sign : Nat
  e : Nat
  x : Nat
  maxLength : Nat

namespace LimitRequest

/-- R196: the arguments that carry the fields. -/
def octets (q : LimitRequest) : List Octet :=
  octetsOf 1 q.band ++ (octetsOf 1 q.measure ++ (octetsOf 4 q.enter1 ++ (octetsOf 4 q.enter2 ++ (octetsOf 4 q.enter3 ++
    (octetsOf 4 q.h ++ (octetsOf 1 q.sign ++ (octetsOf 1 q.e ++ (octetsOf 1 q.x ++ octetsOf 2 q.maxLength))))))))

/-- R196: every field fits the octets that carry it. -/
structure Fits (q : LimitRequest) : Prop where
  band : q.band < 256
  measure : q.measure < 256
  enter1 : q.enter1 < 4294967296
  enter2 : q.enter2 < 4294967296
  enter3 : q.enter3 < 4294967296
  h : q.h < 4294967296
  sign : q.sign < 256
  e : q.e < 256
  x : q.x < 256
  maxLength : q.maxLength < 65536

/-- R130, check 1: the ranges of the fields of the limit set. -/
def SetInRange (q : LimitRequest) : Prop :=
  q.enter1 ≤ 1000000 ∧ q.enter2 ≤ 1000000 ∧ q.enter3 ≤ 1000000 ∧ q.h ≤ 1000000 ∧ q.sign < 3 ∧ 1 ≤ q.e ∧ q.e ≤ 15 ∧
    1 ≤ q.x ∧ q.x ≤ 15

/-- R129, R196: the sign mode of a code in range. -/
def signMode (n : Nat) : SignMode :=
  match n with
  | 0 => .both
  | 1 => .positive
  | _ => .negative

/-- R129: the limit set a request carries, its sign code being in range. -/
def limitSet (q : LimitRequest) : LimitSet :=
  { enter1 := q.enter1, enter2 := q.enter2, enter3 := q.enter3, h := q.h, sign := signMode q.sign, e := q.e
    x := q.x, maxLength := q.maxLength }

theorem octets_length (q : LimitRequest) : q.octets.length = 23 := by
  simp [octets]

section
variable {q : LimitRequest}

theorem field_band (hq : q.Fits) : field q.octets 0 1 = q.band :=
  field_octetsOf 1 q.band _ hq.band

theorem field_measure (hq : q.Fits) : field q.octets 1 1 = q.measure := by
  simp [octets, field_append_right, field_octetsOf, hq.measure]

/-- R130: the fields of the limit set are read as they were written. -/
theorem field_limitSet (hq : q.Fits) :
    field q.octets 2 4 = q.enter1 ∧ field q.octets 6 4 = q.enter2 ∧ field q.octets 10 4 = q.enter3 ∧
      field q.octets 14 4 = q.h ∧ field q.octets 18 1 = q.sign ∧ field q.octets 19 1 = q.e ∧
      field q.octets 20 1 = q.x ∧ field q.octets 21 2 = q.maxLength := by
  simp [octets, field_append_right, field_octetsOf, field_octetsOf_last, hq.enter1, hq.enter2, hq.enter3, hq.h, hq.sign,
    hq.e, hq.x, hq.maxLength]

end

end LimitRequest

/-- R131, R196: the arguments of READ LIMITS: the band and the measure. -/
def limitAddress (band measure : Nat) : List Octet := octetsOf 1 band ++ octetsOf 1 measure

theorem limitAddress_length (band measure : Nat) : (limitAddress band measure).length = 2 := by
  simp [limitAddress]

theorem field_limitAddress_band {band : Nat} (h : band < 256) (measure : Nat) :
    field (limitAddress band measure) 0 1 = band :=
  field_octetsOf 1 band _ h

theorem field_limitAddress_measure (band : Nat) {measure : Nat} (h : measure < 256) :
    field (limitAddress band measure) 1 1 = measure := by
  simp [limitAddress, field_append_right, field_octetsOf_last, h]

theorem signMode?_of_lt {n : Nat} (h : n < 3) :
    signMode? n = some (LimitRequest.signMode n) := by
  interval_cases n <;> rfl

theorem signMode?_of_le {n : Nat} (h : 3 ≤ n) : signMode? n = none := by
  obtain ⟨k, rfl⟩ := Nat.exists_eq_add_of_le' h
  rfl

/-! ### The two passes of checks (R130) -/

section
variable {q : LimitRequest}

theorem limitSet?_of_inRange (hq : q.Fits) (h : q.SetInRange) : limitSet? q.octets = some q.limitSet := by
  obtain ⟨h1, h2, h3, h4, hs, he, he', hx, hx'⟩ := h
  obtain ⟨f1, f2, f3, fh, fs, fe, fx, fl⟩ := LimitRequest.field_limitSet hq
  simp only [limitSet?, f1, f2, f3, fh, fs, fe, fx, fl, signMode?_of_lt hs]
  exact if_pos ⟨h1, h2, h3, h4, he, he', hx, hx'⟩

theorem limitSet?_of_not_inRange (hq : q.Fits) (h : ¬q.SetInRange) : limitSet? q.octets = none := by
  obtain ⟨f1, f2, f3, fh, fs, fe, fx, fl⟩ := LimitRequest.field_limitSet hq
  simp only [limitSet?, f1, f2, f3, fh, fs, fe, fx, fl]
  rcases lt_or_ge q.sign 3 with hs | hs
  · rw [signMode?_of_lt hs]
    exact if_neg fun ⟨h1, h2, h3, h4, hdebounce⟩ => h ⟨h1, h2, h3, h4, hs, hdebounce⟩
  · rw [signMode?_of_le hs]

end

theorem LimitSet.consistent_iff (l : LimitSet) :
    l.consistent = true ↔ (0 < l.enter2 → 0 < l.enter1 ∧ l.enter1 < l.enter2) ∧
      (0 < l.enter3 → 0 < l.enter2 ∧ l.enter2 < l.enter3) ∧ (0 < l.enter1 → l.h < l.enter1) := by
  simp only [LimitSet.consistent, Bool.and_eq_true, Bool.or_eq_true, beq_iff_eq, decide_eq_true_eq]
  omega

/-! ### The table with one limit set replaced, and the results reported (R130, R131) -/

theorem limitSet_setLimits (y : Exd) (band : Fin 5) (measure : Fin 16) (l : LimitSet) (b : Fin 5) (m : Fin 16) :
    (y.setLimits band measure l).limitSet b m = if b = band ∧ m = measure then l else y.limitSet b m := by
  by_cases hb : b = band
  · subst hb
    by_cases hm : m = measure
    · simp [Exd.limitSet, Exd.setLimits, hm]
    · simp [Exd.limitSet, Exd.setLimits, hm, Vector.getElem_set_ne, Fin.val_ne_of_ne (Ne.symm hm)]
  · simp [Exd.limitSet, Exd.setLimits, hb, Vector.getElem_set_ne, Fin.val_ne_of_ne (Ne.symm hb)]

/-- R131: the exit limit of an unused level is reported as 0. -/
theorem reportedExit_eq (l : LimitSet) (level : Nat) :
    l.reportedExit level = if l.enter level = 0 then 0 else (l.enter level : Int) - l.h := by
  rcases Nat.eq_zero_or_pos (l.enter level) with h | h
  · simp [LimitSet.reportedExit, LimitSet.used, h]
  · simp [LimitSet.reportedExit, LimitSet.used, LimitSet.exit, h, h.ne']

/-! ### Both commands at EXD, case by case (R130, R131) -/

section
variable {c : CommandEntry} {s : State} {q : LimitRequest}

theorem writeLimits_of_not_inRange (hc : c.args = q.octets) (hq : q.Fits)
    (h : ¬(q.band < 5 ∧ q.measure < 16 ∧ q.SetInRange)) : writeLimits c s = (s, .refuse .badArg) := by
  by_cases hset : q.SetInRange
  · refine dif_neg ?_
    rw [hc, LimitRequest.field_band hq, LimitRequest.field_measure hq]
    exact fun ⟨hb, hm⟩ => h ⟨hb, hm, hset⟩
  · simp only [writeLimits, hc, limitSet?_of_not_inRange hq hset, dite_eq_ite, ite_self]

/-- R130: a request that passes check 1 goes by check 2 on the set it carries. -/
theorem writeLimits_of_inRange (hc : c.args = q.octets) (hq : q.Fits) (hb : q.band < 5) (hm : q.measure < 16)
    (h : q.SetInRange) :
    writeLimits c s =
      if q.limitSet.consistent then (s.withExd (s.exd.setLimits ⟨q.band, hb⟩ ⟨q.measure, hm⟩ q.limitSet), .done [])
      else (s, .refuse .badTable) := by
  simp only [writeLimits, hc, LimitRequest.field_band hq, LimitRequest.field_measure hq, limitSet?_of_inRange hq h, hb, hm,
    and_self, dite_true]

variable {band : Fin 5} {measure : Fin 16}

theorem readLimits_of_outside (h : ¬(field c.args 0 1 < 5 ∧ field c.args 1 1 < 16)) :
    readLimits c s = (s, .refuse .badArg) :=
  dif_neg h

theorem readLimits_of_inside (hb : field c.args 0 1 = band) (hm : field c.args 1 1 = measure) :
    readLimits c s = (s, .done (s.exd.limitResults band measure)) := by
  simp only [readLimits, hb, hm, band.isLt, measure.isLt, and_self, dite_true]

end

/-! ### Both commands taken from the queue and answered (R25 to R27) -/

section
variable {s t : State} {source : Octet} {tag : Half} {xs : List Octet} {rest : List CommandEntry} {r : Reply}

theorem exec_writeLimits_of_taken (h : s.CanTake (commandEntry source false 0x48 tag xs) rest) (hl : xs.length = 23)
    (hr : writeLimits (commandEntry source false 0x48 tag xs) (s.taken rest) = (t, r)) :
    exec .writeLimits s = .next (t.responded source 0x48 tag r.status r.results) :=
  congrArg Host.Outcome.next (h.run_addressed rfl hl rfl hr)

theorem exec_readLimits_of_taken (h : s.CanTake (commandEntry source false 0x49 tag xs) rest) (hl : xs.length = 2)
    (hr : readLimits (commandEntry source false 0x49 tag xs) (s.taken rest) = (t, r)) :
    exec .readLimits s = .next (t.responded source 0x49 tag r.status r.results) :=
  congrArg Host.Outcome.next (h.run_addressed rfl hl rfl hr)

end

end Sys2Proof.Machine

/-! The statement about the limit sets of exceedance detection, chapter 7 of the manual. -/

namespace Sys2Proof.Proofs

open Sys2Proof Sys2Proof.Machine

/-- Settles O41: WRITE LIMITS by its two passes of checks on the fields it carries, READ LIMITS by whether its band and measure
are in range. -/
theorem limitSetsAreCheckedThenReplaced : Obligations.LimitSetsAreCheckedThenReplaced := by
  refine ⟨fun s source tag rest band measure enter1 enter2 enter3 h sign e x maxLength hband hmeasure h1 h2 h3 hh hsign he hx
    hlength hwrite => ?_, fun s source tag rest band measure hband hmeasure hread => ?_⟩
  · let q : LimitRequest := ⟨band, measure, enter1, enter2, enter3, h, sign, e, x, maxLength⟩
    have hq : q.Fits := ⟨hband, hmeasure, h1, h2, h3, hh, hsign, he, hx, hlength⟩
    have hargs : (commandEntry source false 0x48 tag q.octets).args = q.octets := commandEntry_args ..
    have hlen := q.octets_length
    intro inRange consistent
    refine ⟨fun hout => ?_, fun ⟨hb, hm, hr⟩ hbad => ?_, fun ⟨hb, hm, hr⟩ hgood => ?_⟩
    · exact exec_writeLimits_of_taken hwrite hlen (writeLimits_of_not_inRange hargs hq hout)
    · have hreply := writeLimits_of_inRange (s := s.taken rest) hargs hq hb hm hr
      rw [if_neg (mt q.limitSet.consistent_iff.mp hbad)] at hreply
      exact exec_writeLimits_of_taken hwrite hlen hreply
    · have hreply := writeLimits_of_inRange (s := s.taken rest) hargs hq hb hm hr
      rw [if_pos (q.limitSet.consistent_iff.mpr hgood)] at hreply
      refine ⟨(s.exd.setLimits ⟨band, hb⟩ ⟨measure, hm⟩ q.limitSet).limits, fun b m => ?_,
        exec_writeLimits_of_taken hwrite hlen hreply⟩
      exact (limitSet_setLimits ..).trans (if_congr (and_congr Fin.ext_iff Fin.ext_iff) rfl rfl)
  · change s.CanTake (commandEntry source false 0x49 tag (limitAddress band measure)) rest at hread
    have hargs := commandEntry_args source false 0x49 tag (limitAddress band measure)
    have hlen := limitAddress_length band measure
    have hb := hargs.symm ▸ field_limitAddress_band hband measure
    have hm := hargs.symm ▸ field_limitAddress_measure band hmeasure
    refine ⟨fun hout => ?_, fun hb5 hm16 => ?_⟩
    · exact exec_readLimits_of_taken hread hlen (readLimits_of_outside (by rw [hb, hm]; omega))
    · intro l d exit
      have hreply := readLimits_of_inside (s := s.taken rest) (band := ⟨band, hb5⟩) (measure := ⟨measure, hm16⟩) hb hm
      rw [exec_readLimits_of_taken hread hlen hreply]
      simp only [Exd.limitResults, LimitSet.octets, reportedExit_eq]
      rfl

end Sys2Proof.Proofs

/-! SUPPORT. What EXT does with each detector notice and at a truncation: the record an OPEN, a ROW and a CLOSE leave, the alert
offered, the starts the cyclic test compares, and the contexts that one truncation posts (R154 to R165). -/

namespace Sys2Proof.Machine

/-! ### Updates of one place, twice (R151, R154) -/

theorem updateRecord_updateRecord (x : Ext) (k : Fin 32) (f g : ExceptionRecord → ExceptionRecord) :
    (x.updateRecord k f).updateRecord k g = x.updateRecord k (g ∘ f) := by
  simp [Ext.updateRecord]

theorem updateRecord_openContext (x : Ext) (k : Fin 32) (rest : List (Fin 32)) (m : Fin 16) (r : ExceptionRecord)
    (f : ExceptionRecord → ExceptionRecord) :
    (x.openContext k rest m r).updateRecord k f = x.openContext k rest m (f r) := by
  simp [Ext.updateRecord, Ext.openContext]

theorem setTracking_setTracking (x : Ext) (m : Fin 16) (e e' : Tracking) :
    (x.setTracking m e).setTracking m e' = x.setTracking m e' := by
  simp [Ext.setTracking]

theorem setTracking_openWithout (x : Ext) (m : Fin 16) (u u' : UntrackedRecord) :
    (x.openWithout m u).setTracking m (.untracked u') = x.openWithout m u' := by
  simp [Ext.setTracking, Ext.openWithout]

@[simp] theorem record_updateRecord (x : Ext) (k : Fin 32) (f : ExceptionRecord → ExceptionRecord) :
    ((x.updateRecord k f).contexts[k]).record = f (x.contexts[k]).record := by
  simp [Ext.updateRecord]

@[simp] theorem record_openContext (x : Ext) (k : Fin 32) (rest : List (Fin 32)) (m : Fin 16) (r : ExceptionRecord) :
    ((x.openContext k rest m r).contexts[k]).record = r := by
  simp [Ext.openContext]

theorem updateRecord_id (x : Ext) (k : Fin 32) : x.updateRecord k id = x := by
  have hsame : x.contexts.set k.val x.contexts[k] = x.contexts := Vector.set_getElem_self k.isLt
  exact congrArg (fun contexts => { x with contexts := contexts }) hsame

theorem setTracking_same {x : Ext} {m : Fin 16} {e : Tracking} (h : x.openMap[m] = e) : x.setTracking m e = x := by
  subst h
  simp [Ext.setTracking]

theorem openMap_setTracking (x : Ext) (m m' : Fin 16) (e : Tracking) :
    (x.setTracking m e).openMap[m'] = if m' = m then e else x.openMap[m'] := by
  simp [Ext.setTracking, Vector.getElem_set, Fin.ext_iff, eq_comm]

/-! ### Alerts (R157, R158) -/

/-- R158: the alert record of a tracked exception. -/
def ExceptionRecord.alert (r : ExceptionRecord) (k : Fin 32) (row : RowRef) (epoch : BitVec 8) (speed : Nat) : AlertRecord :=
  { measure := r.measure, context := some k, band := r.band, start := r.start, startEpoch := r.startEpoch, row := row
    epoch := epoch, peak := r.peak, speed := speed }

/-- R158: the alert record of an untracked exception. -/
def UntrackedRecord.alert (u : UntrackedRecord) (m : Fin 16) (row : RowRef) (epoch : BitVec 8) (speed : Nat) : AlertRecord :=
  { measure := m, context := none, band := u.band, start := u.start, startEpoch := u.startEpoch, row := row, epoch := epoch
    peak := u.peak, speed := speed }

/-- R157: a record's alert flags after an alert, if one is raised, that finds the queue full or not. -/
def ExceptionRecord.alerting (r : ExceptionRecord) (raised full : Bool) : ExceptionRecord :=
  { r with alerted := r.alerted || raised, alertLost := r.alertLost || (raised && full) }

theorem alerting_false (full : Bool) : (ExceptionRecord.alerting · false full) = id := by
  funext r
  simp [ExceptionRecord.alerting]

/-- R157: the flags are set whenever an alert is raised; the alert joins the queue only if that has room. -/
theorem raiseTracked_if (t : Tracker) (raised : Prop) [Decidable raised] (k : Fin 32) (row : RowRef) (epoch : BitVec 8)
    (speed : Nat) :
    (if raised then t.raiseTracked k row epoch speed else t) =
      { ext := t.ext.updateRecord k (·.alerting (decide raised) (decide (4 ≤ t.alerts.length)))
        alerts := if raised ∧ t.alerts.length < 4 then
            t.alerts ++ [(t.ext.contexts[k]).record.alert k row epoch speed] else t.alerts } := by
  by_cases hraised : raised
  · by_cases hroom : t.alerts.length < 4
    · simp [hraised, hroom, Nat.not_le_of_lt hroom, Tracker.raiseTracked, ExceptionRecord.alerting, ExceptionRecord.alert]
    · simp [hraised, hroom, Nat.le_of_not_lt hroom, Tracker.raiseTracked, ExceptionRecord.alerting]
  · simp [hraised, alerting_false, updateRecord_id]

/-- R157: of an untracked exception ALERTED alone is kept. -/
theorem raiseUntracked_if (t : Tracker) (raised : Prop) [Decidable raised] (m : Fin 16) (u : UntrackedRecord) (row : RowRef)
    (epoch : BitVec 8) (speed : Nat) (h : t.ext.openMap[m] = .untracked u) :
    (if raised then t.raiseUntracked m u row epoch speed else t) =
      { ext := t.ext.setTracking m (.untracked { u with alerted := u.alerted || decide raised })
        alerts := if raised ∧ t.alerts.length < 4 then t.alerts ++ [u.alert m row epoch speed] else t.alerts } := by
  by_cases hraised : raised
  · simp [hraised, Tracker.raiseUntracked, UntrackedRecord.alert]
  · simp [hraised, setTracking_same h]

/-! ### An OPEN notice (R155) -/

theorem opened_of_free {t : Tracker} {k : Fin 32} {rest : List (Fin 32)} (h : t.ext.free = k :: rest) (m : Fin 16)
    (run : PendingRun) (level : Nat) (row : RowRef) (epoch : BitVec 8) (speed : Nat) :
    t.opened m run level row epoch speed =
      { ext := t.ext.openContext k rest m
          ((openRecord m run level row speed).alerting (decide (level = 3)) (decide (4 ≤ t.alerts.length)))
        alerts := if level = 3 ∧ t.alerts.length < 4 then
            t.alerts ++ [(openRecord m run level row speed).alert k row epoch speed] else t.alerts } := by
  simp only [Tracker.opened, h]
  rw [raiseTracked_if, updateRecord_openContext, record_openContext]

theorem opened_of_no_free {t : Tracker} (h : t.ext.free = []) (m : Fin 16) (run : PendingRun) (level : Nat) (row : RowRef)
    (epoch : BitVec 8) (speed : Nat) :
    t.opened m run level row epoch speed =
      { ext := t.ext.openWithout m { openUntracked run with alerted := decide (level = 3) }
        alerts := if level = 3 ∧ t.alerts.length < 4 then
            t.alerts ++ [(openUntracked run).alert m row epoch speed] else t.alerts } := by
  have hentry : (t.ext.openWithout m (openUntracked run)).openMap[m] = .untracked (openUntracked run) := by
    simp [Ext.openWithout]
  simp only [Tracker.opened, h]
  rw [raiseUntracked_if _ _ _ _ _ _ _ hentry, setTracking_openWithout]
  rfl

/-! ### A ROW notice (R156, R157) -/

theorem followed_of_tracked {t : Tracker} {m : Fin 16} {k : Fin 32} (h : t.ext.openMap[m] = .tracked k) (row : RowRef)
    (epoch : BitVec 8) (valid : Bool) (a : Nat) (v : Int) (sat low : Bool) (speed level : Nat) :
    let r := (t.ext.contexts[k]).record
    let raised : Prop := level = 3 ∧ r.alerted = false
    t.followed m row epoch valid a v sat low speed level =
      { ext := t.ext.updateRecord k fun _ => (r.afterRow row epoch valid a v sat low level).alerting (decide raised)
          (decide (4 ≤ t.alerts.length))
        alerts := if raised ∧ t.alerts.length < 4 then
            t.alerts ++ [(r.afterRow row epoch valid a v sat low level).alert k row epoch speed] else t.alerts } := by
  intro r raised
  simp only [Tracker.followed, h]
  rw [raiseTracked_if, updateRecord_updateRecord, record_updateRecord]
  rfl

theorem followed_of_untracked {t : Tracker} {m : Fin 16} {u : UntrackedRecord} (h : t.ext.openMap[m] = .untracked u)
    (row : RowRef) (epoch : BitVec 8) (valid : Bool) (a : Nat) (v : Int) (sat low : Bool) (speed level : Nat) :
    let raised : Prop := level = 3 ∧ u.alerted = false
    t.followed m row epoch valid a v sat low speed level =
      { ext := t.ext.setTracking m
          (.untracked { u.afterRow row valid a v with alerted := u.alerted || decide raised })
        alerts := if raised ∧ t.alerts.length < 4 then
            t.alerts ++ [(u.afterRow row valid a v).alert m row epoch speed] else t.alerts } := by
  intro raised
  have hentry : (t.ext.setTracking m (.untracked (u.afterRow row valid a v))).openMap[m] =
      .untracked (u.afterRow row valid a v) := by simp [Ext.setTracking]
  simp only [Tracker.followed, h]
  rw [raiseUntracked_if _ _ _ _ _ _ _ hentry, setTracking_setTracking]
  rfl

/-- R156: a valid row of larger magnitude is the new peak; any other row keeps the peak. -/
theorem peak_after_if (p : Peak) (valid : Bool) (a : Nat) (v : Int) (row : RowRef) :
    (if valid then p.after a v row else p) =
      if valid = true ∧ p.magnitude < a then { magnitude := a, signed := v, row := row } else p := by
  cases valid <;> simp [Peak.after]

/-- R157: a tracked exception is ALERTED from its first row at level 3 on. -/
theorem alerted_or_raised (alerted : Bool) (level : Nat) :
    (alerted || decide (level = 3 ∧ alerted = false)) = (alerted || decide (level = 3)) := by
  cases alerted <;> simp

/-- R156, R157: a tracked record after a row and the alert that row raises. -/
theorem alerting_afterRow (r : ExceptionRecord) (row : RowRef) (epoch : BitVec 8) (valid : Bool) (a : Nat) (v : Int)
    (sat low : Bool) (level : Nat) (full : Prop) [Decidable full] :
    (r.afterRow row epoch valid a v sat low level).alerting (decide (level = 3 ∧ r.alerted = false)) (decide full) =
      { r with
        last := row
        levelMax := max r.levelMax level
        peak := if valid = true ∧ r.peak.magnitude < a then { magnitude := a, signed := v, row := row } else r.peak
        sat := r.sat || sat
        invalidSeen := r.invalidSeen || !valid
        lowSpeed := r.lowSpeed || low
        corrected := r.corrected || decide (epoch ≠ r.startEpoch)
        alerted := r.alerted || decide (level = 3)
        alertLost := r.alertLost || decide (level = 3 ∧ r.alerted = false ∧ full) } := by
  simp only [ExceptionRecord.alerting, ExceptionRecord.afterRow, peak_after_if, alerted_or_raised,
    ← Bool.decide_and, and_assoc, bne, beq_eq_decide, decide_not]

/-! ### The cyclic test at a CLOSE (R162) -/

/-- R162: the start of exception number `i` counted back from the one that closes. -/
def startBack (start : RingStart) (ring : List RingStart) (i : Nat) : RingStart := (start :: ring).getD i start

/-- R162: the spacing from start number `i` back to the one before it. -/
def spacingBack (start : RingStart) (ring : List RingStart) (i : Nat) : Int :=
  (startBack start ring i).position - (startBack start ring (i + 1)).position

/-- R162: a spacing within the pitch limits and within the tolerance of the pitch. -/
def ConfigRecord.FitsPitch (c : ConfigRecord) (p d : Int) : Prop :=
  (c.pitchMinMm : Int) ≤ d ∧ d ≤ c.pitchMaxMm ∧ (d - p).natAbs ≤ c.pitchTolMm

theorem startBack_take (start : RingStart) (ring : List RingStart) {n i : Nat} (h : i ≤ n) :
    startBack start (ring.take n) i = startBack start ring i := by
  rw [startBack, startBack, ← List.take_succ_cons, List.getD_eq_getElem?_getD, List.getElem?_take_of_lt (by omega),
    List.getD_eq_getElem?_getD]

theorem forall_mem_ring_iff (start : RingStart) (ring : List RingStart) (p : RingStart → Prop) :
    (∀ e ∈ ring, p e) ↔ ∀ i < ring.length, p (startBack start ring (i + 1)) := by
  rw [List.forall_mem_iff_forall_getElem]
  refine forall₂_congr fun i hi => ?_
  simp [startBack, hi]

theorem length_spacings (start : RingStart) (ring : List RingStart) : (spacings (start :: ring)).length = ring.length := by
  induction ring generalizing start with
  | nil => rfl
  | cons b rest ih => simp [spacings, ih]

theorem getElem_spacings (start : RingStart) (ring : List RingStart) (i : Nat) (h : i < (spacings (start :: ring)).length) :
    (spacings (start :: ring))[i] = spacingBack start ring i := by
  induction ring generalizing start i with
  | nil => simp [spacings] at h
  | cons b rest ih =>
    have hlen : i < rest.length + 1 := by simpa [length_spacings] using h
    cases i with
    | zero => rfl
    | succ i =>
      have hi : i < rest.length := by omega
      simp only [spacings, List.getElem_cons_succ, ih]
      simp [spacingBack, startBack, hi, Nat.lt_succ_of_lt hi]

theorem forall_mem_spacings_iff (start : RingStart) (ring : List RingStart) (p : Int → Prop) :
    (∀ d ∈ spacings (start :: ring), p d) ↔ ∀ i < ring.length, p (spacingBack start ring i) := by
  rw [List.forall_mem_iff_forall_getElem]
  simp only [length_spacings, getElem_spacings]

/-- R162: the pitch of a start and at least one before it is the newest spacing, when every spacing and every epoch fits. -/
theorem cyclicPitch_eq_some (c : ConfigRecord) (start : RingStart) {ring : List RingStart} (h : ring ≠ []) (p : Int) :
    cyclicPitch c (start :: ring) = some p ↔
      p = spacingBack start ring 0 ∧ (∀ d ∈ spacings (start :: ring), c.FitsPitch p d) ∧
        ∀ e ∈ ring, e.epoch = start.epoch := by
  obtain ⟨b, rest, rfl⟩ := List.exists_cons_of_ne_nil h
  have hfirst : spacingBack start (b :: rest) 0 = start.position - b.position := rfl
  rw [hfirst]
  simp only [cyclicPitch, spacings, Option.ite_none_right_eq_some, Option.some.injEq, Bool.and_eq_true,
    List.all_eq_true, decide_eq_true_eq, beq_iff_eq, ConfigRecord.FitsPitch, and_assoc]
  constructor
  · rintro ⟨hspacings, hepochs, rfl⟩
    exact ⟨rfl, hspacings, hepochs⟩
  · rintro ⟨rfl, hspacings, hepochs⟩
    exact ⟨hspacings, hepochs, rfl⟩

/-- R162: the pitch over `n` starts before the one that closes. -/
theorem cyclicPitch_take_eq_some (c : ConfigRecord) (start : RingStart) {ring : List RingStart} {n : Nat} (hpos : 0 < n)
    (hlen : n ≤ ring.length) (p : Int) :
    cyclicPitch c (start :: ring.take n) = some p ↔
      p = spacingBack start ring 0 ∧
        ∀ i < n, c.FitsPitch p (spacingBack start ring i) ∧ (startBack start ring (i + 1)).epoch = start.epoch := by
  have htaken : (ring.take n).length = n := List.length_take_of_le hlen
  have hspacing {i : Nat} (hi : i < n) : spacingBack start (ring.take n) i = spacingBack start ring i := by
    rw [spacingBack, startBack_take start ring hi.le, startBack_take start ring hi, spacingBack]
  rw [cyclicPitch_eq_some c start (List.ne_nil_of_length_pos (htaken.symm ▸ hpos)), forall_mem_spacings_iff,
    forall_mem_ring_iff, htaken, hspacing hpos, ← forall₂_and]
  refine and_congr_right fun _ => forall₂_congr fun i hi => ?_
  rw [hspacing hi, startBack_take start ring hi]

/-- R162: with fewer than two starts to compare there is no spacing, so no pitch. -/
theorem cyclicPitch_single (c : ConfigRecord) (start : RingStart) : cyclicPitch c [start] = none := rfl

/-- R162: the cyclic test on the starts counted back from the one that closes. -/
theorem cyclicTest_eq_some (c : ConfigRecord) (cls : ExceptionClass) (start : RingStart) (ring : List RingStart) (p : Int) :
    cyclicTest c cls start ring = some p ↔
      2 ≤ c.cyclicCount ∧ cls ≠ .long ∧ c.cyclicCount ≤ ring.length + 1 ∧ p = spacingBack start ring 0 ∧
        ∀ i, i + 1 < c.cyclicCount →
          c.FitsPitch p (spacingBack start ring i) ∧ (startBack start ring (i + 1)).epoch = start.epoch := by
  rw [cyclicTest, Option.ite_none_right_eq_some]
  by_cases htwo : 2 ≤ c.cyclicCount
  · simp only [← Nat.lt_sub_iff_add_lt]
    constructor
    · rintro ⟨⟨-, hcls, hlen⟩, hpitch⟩
      exact ⟨htwo, hcls, by omega, (cyclicPitch_take_eq_some c start (by omega) hlen p).mp hpitch⟩
    · rintro ⟨-, hcls, hlen, hpitch⟩
      have hlen' : c.cyclicCount - 1 ≤ ring.length := by omega
      exact ⟨⟨by omega, hcls, hlen'⟩, (cyclicPitch_take_eq_some c start (by omega) hlen' p).mpr hpitch⟩
  · have hnone : c.cyclicCount - 1 = 0 := by omega
    simp [htwo, hnone, cyclicPitch_single]

/-! ### A CLOSE notice (R159, R160, R163, R164) -/

theorem closeClass_eq_long (c : ConfigRecord) (cause : CloseCause) (length : Nat) :
    closeClass c cause length = .long ↔ cause = .long := by
  unfold closeClass
  split
  · simp [*]
  · split <;> simp [*]

theorem closed_of_tracked {x : Ext} {m : Fin 16} {k : Fin 32} (h : x.openMap[m] = .tracked k) (c : ConfigRecord)
    (cause : CloseCause) (endRow : RowRef) : x.closed c m cause endRow = x.closeTracked c m k cause endRow := by
  simp only [Ext.closed, h]

theorem closed_of_untracked {x : Ext} {m : Fin 16} {u : UntrackedRecord} (h : x.openMap[m] = .untracked u)
    (c : ConfigRecord) (cause : CloseCause) (endRow : RowRef) : x.closed c m cause endRow = x.closeUntracked m u cause := by
  simp only [Ext.closed, h]

/-! ### Truncation (R165) -/

/-- R165: the context a tracking entry names, whose exception a truncation posts. -/
def Tracking.context? : Tracking → Option (Fin 32)
  | .tracked k => some k
  | _ => Option.none

theorem context?_eq_some {e : Tracking} {k : Fin 32} : e.context? = some k ↔ e = .tracked k := by
  cases e <;> simp [Tracking.context?]

/-- R165: the contexts of these measures' exceptions, in the measures' order. -/
def contextsOf (entries : Vector Tracking 16) (ms : List (Fin 16)) : List (Fin 32) :=
  ms.filterMap fun m => (entries[m]).context?

theorem contextsOf_cons (entries : Vector Tracking 16) (m : Fin 16) (ms : List (Fin 16)) :
    contextsOf entries (m :: ms) = (entries[m]).context?.toList ++ contextsOf entries ms := by
  rw [contextsOf, List.filterMap_cons, contextsOf]
  cases (entries[m]).context? <;> rfl

theorem contextsOf_setTracking (x : Ext) {m : Fin 16} {ms : List (Fin 16)} (h : m ∉ ms) (e : Tracking) :
    contextsOf (x.setTracking m e).openMap ms = contextsOf x.openMap ms := by
  refine List.filterMap_congr fun m' hm' => ?_
  rw [openMap_setTracking, if_neg (ne_of_mem_of_not_mem hm' h)]

/-- R154: the open map of a lawful pool names no context twice. -/
theorem contextsOf_nodup {x : Ext} {lane : Lane} (h : x.PoolLawful lane) {ms : List (Fin 16)} (hms : ms.Nodup) :
    (contextsOf x.openMap ms).Nodup := by
  refine hms.filterMap fun m m' k hm hm' => ?_
  rw [← h.openMeasure m k (context?_eq_some.mp hm), ← h.openMeasure m' k (context?_eq_some.mp hm')]

/-- R165: the record of a truncated exception: its last row ends it, and no cyclic test is made. -/
def ExceptionRecord.truncated (r : ExceptionRecord) (c : ConfigRecord) (lost : Nat) : ExceptionRecord :=
  r.finish r.last (if exceptionLength r.start r.last ≤ c.pointLen then .point else .extended) .truncated none lost

/-- R165: a context posted with its truncated record; no measure's entry is touched yet. -/
def Ext.truncateContext (c : ConfigRecord) (x : Ext) (k : Fin 32) : Ext :=
  { x with
    contexts := x.contexts.set k.val { state := .posted, record := (x.contexts[k]).record.truncated c x.lost }
    posted := x.posted ++ [k]
    lost := 0 }

theorem truncateOne_eq (c : ConfigRecord) (x : Ext) (m : Fin 16) :
    x.truncateOne c m = ((x.openMap[m]).context?.toList.foldl (Ext.truncateContext c) x).setTracking m .none := by
  cases h : x.openMap[m] with
  | none => simpa [Ext.truncateOne, h, Tracking.context?] using (setTracking_same h).symm
  | tracked k => simp only [Ext.truncateOne, h]; rfl
  | untracked u => simp only [Ext.truncateOne, h]; rfl

/-- R165: these measures' entries become none. -/
def Ext.clearEntries (x : Ext) (ms : List (Fin 16)) : Ext := ms.foldl (fun y m => y.setTracking m .none) x

theorem clearEntries_frame (x : Ext) (ms : List (Fin 16)) :
    x.clearEntries ms = { x with openMap := (x.clearEntries ms).openMap } := by
  induction ms generalizing x with
  | nil => rfl
  | cons m ms ih => exact ih (x.setTracking m .none)

theorem openMap_clearEntries (x : Ext) (ms : List (Fin 16)) (m : Fin 16) :
    (x.clearEntries ms).openMap[m] = if m ∈ ms then .none else x.openMap[m] := by
  induction ms generalizing x with
  | nil => rfl
  | cons m' ms ih =>
    rw [show x.clearEntries (m' :: ms) = (x.setTracking m' .none).clearEntries ms from rfl, ih, openMap_setTracking]
    by_cases hm : m = m' <;> simp [hm]

/-- R165: contexts posted one after another join the posted queue in that order; the first takes the lost count. -/
theorem truncateContexts_frame (c : ConfigRecord) (x : Ext) (ks : List (Fin 32)) :
    ks.foldl (Ext.truncateContext c) x = { x with
      contexts := (ks.foldl (Ext.truncateContext c) x).contexts
      posted := x.posted ++ ks
      lost := if ks = [] then x.lost else 0 } := by
  induction ks generalizing x with
  | nil => simp
  | cons k ks ih =>
    rw [List.foldl_cons, ih]
    simp [Ext.truncateContext]

/-- R160, R165: of the contexts posted, each once, the first records the lost count and the others 0. -/
theorem contexts_truncateContexts (c : ConfigRecord) (x : Ext) {ks : List (Fin 32)} (h : ks.Nodup) (k : Fin 32) :
    (ks.foldl (Ext.truncateContext c) x).contexts[k] =
      if k ∈ ks then
        { state := .posted, record := (x.contexts[k]).record.truncated c (if ks.head? = some k then x.lost else 0) }
      else x.contexts[k] := by
  induction ks generalizing x with
  | nil => rfl
  | cons k' ks ih =>
    obtain ⟨hk', hks⟩ := List.nodup_cons.mp h
    rw [List.foldl_cons, ih _ hks]
    by_cases hk : k = k'
    · subst hk
      simp [hk', Ext.truncateContext]
    · have hval : k'.val ≠ k.val := Fin.val_ne_of_ne (Ne.symm hk)
      simp [hk, Ne.symm hk, Ext.truncateContext, Vector.getElem_set_ne, hval]

theorem truncateContexts_setTracking (c : ConfigRecord) (x : Ext) (ks : List (Fin 32)) (m : Fin 16) (e : Tracking) :
    ks.foldl (Ext.truncateContext c) (x.setTracking m e) = (ks.foldl (Ext.truncateContext c) x).setTracking m e :=
  List.foldl_hom (fun y : Ext => y.setTracking m e) fun _ _ => rfl

/-- R165: truncation measure by measure posts the contexts the open map names and then empties the map. -/
theorem truncateMeasures_eq (c : ConfigRecord) (x : Ext) {ms : List (Fin 16)} (h : ms.Nodup) :
    ms.foldl (Ext.truncateOne c) x =
      ((contextsOf x.openMap ms).foldl (Ext.truncateContext c) x).clearEntries ms := by
  induction ms generalizing x with
  | nil => rfl
  | cons m ms ih =>
    obtain ⟨hm, hms⟩ := List.nodup_cons.mp h
    let y := (x.openMap[m]).context?.toList.foldl (Ext.truncateContext c) x
    have hmap : y.openMap = x.openMap := (congrArg Ext.openMap (truncateContexts_frame c x _)).trans rfl
    calc ms.foldl (Ext.truncateOne c) (x.truncateOne c m)
      _ = ms.foldl (Ext.truncateOne c) (y.setTracking m .none) := by rw [truncateOne_eq]
      _ = ((contextsOf x.openMap ms).foldl (Ext.truncateContext c) (y.setTracking m .none)).clearEntries ms := by
        rw [ih _ hms, contextsOf_setTracking y hm, hmap]
      _ = (((contextsOf x.openMap ms).foldl (Ext.truncateContext c) y).setTracking m .none).clearEntries ms := by
        rw [truncateContexts_setTracking]
      _ = ((contextsOf x.openMap (m :: ms)).foldl (Ext.truncateContext c) x).clearEntries (m :: ms) := by
        rw [contextsOf_cons, List.foldl_append]
        rfl

/-- R165: what a truncation leaves of EXT, the contexts aside. -/
theorem truncate_eq (x : Ext) (c : ConfigRecord) :
    let ended := contextsOf x.openMap (List.finRange 16)
    x.truncate c = { x with
      contexts := (ended.foldl (Ext.truncateContext c) x).contexts
      openMap := (x.truncate c).openMap
      posted := x.posted ++ ended
      lost := if ended = [] then x.lost else 0
      openCount := 0 } := by
  intro ended
  rw [Ext.truncate, truncateMeasures_eq c x (List.nodup_finRange 16), clearEntries_frame, truncateContexts_frame]

theorem openMap_truncate (x : Ext) (c : ConfigRecord) (m : Fin 16) : (x.truncate c).openMap[m] = .none := by
  rw [Ext.truncate, truncateMeasures_eq c x (List.nodup_finRange 16)]
  exact (openMap_clearEntries ..).trans (if_pos (List.mem_finRange m))

/-- R165: the contexts the open map names are posted with their truncated records; the others stay. -/
theorem contexts_truncate {x : Ext} {lane : Lane} (h : x.PoolLawful lane) (c : ConfigRecord) (k : Fin 32) :
    let ended := contextsOf x.openMap (List.finRange 16)
    (x.truncate c).contexts[k] =
      if k ∈ ended then
        { state := .posted, record := (x.contexts[k]).record.truncated c (if ended.head? = some k then x.lost else 0) }
      else x.contexts[k] := by
  intro ended
  rw [truncate_eq x c]
  exact contexts_truncateContexts c x (contextsOf_nodup h (List.nodup_finRange 16)) k

end Sys2Proof.Machine

/-! The statement about exception tracking, chapter 8 of the manual. -/

namespace Sys2Proof.Proofs

open Sys2Proof Sys2Proof.Machine

/-- Settles O44: an OPEN, a ROW and a CLOSE of a tracked or an untracked exception, by the equation of each notice; a
truncation posts, measure by measure, the contexts the open map names, each once as the pool is lawful. -/
theorem exceptionsOpenFollowAndClose : Obligations.ExceptionsOpenFollowAndClose := by
  refine ⟨fun t c m run level row epoch speed => ?_, fun t c m k row epoch valid a v sat low speed level htracked => ?_,
    fun t c m k cause endRow level htracked => ?_, fun t c m u huntracked => ?_, fun x c lane hpool => ?_⟩
  · intro u room alert
    refine ⟨fun k rest hfree => ?_, fun hfree => ?_⟩
    · have hu : u = _ := opened_of_free hfree m run level row epoch speed
      rw [hu]
      refine ⟨?_, fun hroom => if_pos hroom, fun hroom => if_neg hroom⟩
      simp [Ext.openContext, openRecord, ExceptionRecord.alerting]
    · have hu : u = _ := opened_of_no_free hfree m run level row epoch speed
      rw [hu]
      exact ⟨rfl, fun hroom => if_pos hroom, fun hroom => if_neg hroom⟩
  · intro r u raise peak
    have hu : u = _ := followed_of_tracked htracked row epoch valid a v sat low speed level
    have hpeak : (r.afterRow row epoch valid a v sat low level).peak = peak := peak_after_if ..
    rw [hu]
    refine ⟨?_, fun hraise hroom => ?_, fun hno => if_neg hno⟩
    · rw [alerting_afterRow]
      rfl
    · rw [if_pos ⟨hraise, hroom⟩, ExceptionRecord.alert, hpeak]
      rfl
  · intro r u length start start? spacing
    have hu : u = { t with ext := _ } := congrArg (Tracker.mk · t.alerts) (closed_of_tracked htracked c cause endRow)
    refine ⟨cyclicTest c (closeClass c cause length) start (t.ext.rings[m]), fun p => ?_, rfl, ?_⟩
    · rw [cyclicTest_eq_some, Ne, closeClass_eq_long]
      simp only [ConfigRecord.FitsPitch, and_assoc]
      rfl
    · rw [hu]
      rfl
  · refine ⟨fun row epoch a v valid sat low speed level => ?_, fun cause endRow level => ?_⟩
    · intro peak
      have hpeak : (u.afterRow row valid a v).peak = peak := peak_after_if ..
      have hu : t.take c (.row m row epoch valid a v sat low speed level) = _ :=
        followed_of_untracked huntracked row epoch valid a v sat low speed level
      rw [hu, alerted_or_raised, UntrackedRecord.alert, hpeak, ← hpeak]
      simp only [and_assoc]
      exact ⟨rfl, rfl⟩
    · exact congrArg (Tracker.mk · t.alerts) (closed_of_untracked huntracked c cause endRow)
  · intro t ended
    have hended : ended = contextsOf x.openMap (List.finRange 16) := rfl
    clear_value ended
    subst hended
    have ht : t = _ := truncate_eq x c
    have hcontext (k : Fin 32) := contexts_truncate hpool c k
    refine ⟨openMap_truncate x c, congrArg Ext.openCount ht, (congrArg Ext.openRow ht).trans rfl,
      (congrArg Ext.free ht).trans rfl, (congrArg Ext.rings ht).trans rfl, congrArg Ext.posted ht, congrArg Ext.lost ht,
      fun k => ⟨fun hk => (hcontext k).trans (if_neg hk), fun hk => ?_⟩⟩
    exact ⟨_, (hcontext k).trans (if_pos hk), rfl, rfl, rfl, rfl, rfl⟩

end Sys2Proof.Proofs

/-! SUPPORT. Each notice that LRX sends to LTX in each case: the frame start by the condition for cut-through, the rest by
whether the copy holds the lane (R190, R191); and when the arbiter takes nothing (R186). -/

namespace Sys2Proof.Machine

/-! ### The frame start notice (R190, R191) -/

/-- R190: the condition for cut-through, in the words of the rule. -/
theorem cutsThrough_iff (l : Ltx) :
    l.cutsThrough = true ↔ l.lane = .idle ∧ l.hold = .go ∧ l.forward = [] ∧ l.alerts = [] := by
  simp only [Ltx.cutsThrough, Bool.and_eq_true, beq_iff_eq, List.isEmpty_iff, and_assoc]

theorem frameStartNotice_of_cutsThrough {s : State} (h : s.ltx.cutsThrough = true) (head : List Octet) :
    s.frameStartNotice head = { s with
      ltx := { s.ltx with lane := .cutThrough }, outbound := s.outbound ++ .start :: head.map .octet } :=
  if_pos h

theorem frameStartNotice_of_not_cutsThrough {s : State} (h : ¬s.ltx.cutsThrough = true) (head : List Octet) :
    s.frameStartNotice head = { s with ltx := { s.ltx with store := some head } } :=
  if_neg h

/-! ### While the copy holds the lane (R190) -/

section

variable {s : State} (hlane : s.ltx.lane = .cutThrough)

include hlane

theorem handOctet_of_cutThrough (b : Octet) : s.handOctet b = { s with outbound := s.outbound ++ [.octet b] } :=
  if_pos hlane

theorem endNotice_of_cutThrough :
    s.endNotice = { s with ltx := { s.ltx with lane := .idle }, outbound := s.outbound ++ [.endFrame] } :=
  if_pos hlane

theorem dropNotice_of_cutThrough :
    s.dropNotice = { s with ltx := { s.ltx with lane := .idle }, outbound := s.outbound ++ [.abort] } :=
  if_pos hlane

end

/-- R186: the arbiter chooses only while the lane is IDLE. -/
theorem arbiterChoice_of_lane_ne_idle {s : State} (h : s.ltx.lane ≠ .idle) : s.arbiterChoice = s :=
  if_neg fun ⟨hidle, _⟩ => h hidle

/-! ### While the frame is stored (R191) -/

theorem queueStored_of_room {l : Ltx} {f : List Octet} (hstore : l.store = some f) (hroom : l.forward.length < 4) :
    l.queueStored = { l with forward := l.forward ++ [f], store := none } := by
  rw [Ltx.queueStored, hstore]
  exact if_pos hroom

theorem queueStored_of_full {l : Ltx} {f : List Octet} (hstore : l.store = some f) (hfull : 4 ≤ l.forward.length) :
    l.queueStored = { l with forwardsDropped := min (l.forwardsDropped + 1) 65535, store := none } := by
  rw [Ltx.queueStored, hstore]
  exact if_neg hfull.not_gt

section

variable {s : State} (hlane : s.ltx.lane ≠ .cutThrough)

include hlane

theorem handOctet_of_stored {f : List Octet} (hstore : s.ltx.store = some f) (b : Octet) :
    s.handOctet b = { s with ltx := { s.ltx with store := some (f ++ [b]) } } := by
  rw [State.handOctet, if_neg hlane, hstore]
  rfl

theorem endNotice_of_stored : s.endNotice = { s with ltx := s.ltx.queueStored } :=
  if_neg hlane

theorem dropNotice_of_stored : s.dropNotice = { s with ltx := { s.ltx with store := none } } :=
  if_neg hlane

end

end Sys2Proof.Machine

/-! The statement about frames passed on, chapter 10 of the manual. -/

namespace Sys2Proof.Proofs

open Sys2Proof Sys2Proof.Machine

/-- Settles O13: the frame start by R190's condition; then each notice while the copy holds the lane, and while the frame is in
the store buffer, where the forward queue's room decides its end. -/
theorem framesArePassedOnWholeOrAborted : Obligations.FramesArePassedOnWholeOrAborted := by
  refine ⟨fun s head => ⟨fun hcuts => ?_, fun hstores => ?_⟩, fun s hlane => ⟨?_, ?_, ?_, ?_⟩,
    fun s f hlane hstore => ⟨?_, fun hroom => ?_, fun hfull => ?_, ?_⟩⟩
  · exact frameStartNotice_of_cutsThrough ((cutsThrough_iff s.ltx).mpr hcuts) head
  · exact frameStartNotice_of_not_cutsThrough (mt (cutsThrough_iff s.ltx).mp hstores) head
  · exact handOctet_of_cutThrough hlane
  · exact endNotice_of_cutThrough hlane
  · exact dropNotice_of_cutThrough hlane
  · have hbusy : s.ltx.lane ≠ .idle := by simp [hlane]
    exact congrArg Host.Outcome.next (arbiterChoice_of_lane_ne_idle hbusy)
  · exact handOctet_of_stored hlane hstore
  · rw [endNotice_of_stored hlane, queueStored_of_room hstore hroom]
  · rw [endNotice_of_stored hlane, queueStored_of_full hstore hfull]
  · exact dropNotice_of_stored hlane

end Sys2Proof.Proofs


/-! SUPPORT. Which parts of the state each command of the table can write, so that an invariant is proved for the commands that
write what it speaks of and carried past the others. -/

namespace Sys2Proof.Machine

/-! ### The parts of the state -/

/-- A part of the state that the invariants speak of. -/
inductive Part where
  | station | pending | outbound
  | receiver | intake | commands | counters
  | runState | runNumber | config | blockSize | commandsDiscarded
  | channels | zero | odo | loc
  | mse | parameters | measures
  | limits | detectors | ext
  | slots | accumulators
  | lane | alerts | forward | store | responses | locations | locationLost | segments | segmentLost
  | buffers | closedOrder | skippedRows | forwardsDropped
  | odoToLoc | mseToExd | mseToStu
  deriving DecidableEq

/-- Two states agree on a part. -/
def Part.Same (p : Part) (s t : State) : Prop :=
  match p with
  | .station => t.station = s.station
  | .pending => t.pending = s.pending
  | .outbound => t.outbound = s.outbound
  | .receiver => t.lrx.receiver = s.lrx.receiver
  | .intake => t.lrx.intake = s.lrx.intake
  | .commands => t.lrx.commands = s.lrx.commands
  | .counters => t.lrx.counters = s.lrx.counters
  | .runState => t.cmu.runState = s.cmu.runState
  | .runNumber => t.cmu.runNumber = s.cmu.runNumber
  | .config => t.cmu.config = s.cmu.config
  | .blockSize => t.cmu.blockSize = s.cmu.blockSize
  | .commandsDiscarded => t.cmu.commandsDiscarded = s.cmu.commandsDiscarded
  | .channels => t.cal.channels = s.cal.channels
  | .zero => t.cal.zero = s.cal.zero
  | .odo => t.odo = s.odo
  | .loc => t.loc = s.loc
  | .mse => t.mse = s.mse
  | .parameters => t.mse.parameters = s.mse.parameters
  | .measures => t.mse.measures = s.mse.measures
  | .limits => t.exd.limits = s.exd.limits
  | .detectors => t.exd.detectors = s.exd.detectors
  | .ext => t.ext = s.ext
  | .slots => t.stu.slots = s.stu.slots
  | .accumulators => t.stu.accumulators = s.stu.accumulators
  | .lane => t.ltx.lane = s.ltx.lane
  | .alerts => t.ltx.alerts = s.ltx.alerts
  | .forward => t.ltx.forward = s.ltx.forward
  | .store => t.ltx.store = s.ltx.store
  | .responses => t.ltx.responses = s.ltx.responses
  | .locations => t.ltx.locations = s.ltx.locations
  | .locationLost => t.ltx.locationLost = s.ltx.locationLost
  | .segments => t.ltx.segments = s.ltx.segments
  | .segmentLost => t.ltx.segmentLost = s.ltx.segmentLost
  | .buffers => t.ltx.buffers = s.ltx.buffers
  | .closedOrder => t.ltx.closedOrder = s.ltx.closedOrder
  | .skippedRows => t.ltx.skippedRows = s.ltx.skippedRows
  | .forwardsDropped => t.ltx.forwardsDropped = s.ltx.forwardsDropped
  | .odoToLoc => t.links.odoToLoc = s.links.odoToLoc
  | .mseToExd => t.links.mseToExd = s.links.mseToExd
  | .mseToStu => t.links.mseToStu = s.links.mseToStu

theorem Part.Same.refl (p : Part) (s : State) : p.Same s s := by
  cases p <;> rfl

theorem Part.Same.of_eq {p : Part} {s t : State} (h : t = s) : p.Same s t := h ▸ .refl p t

theorem Part.Same.trans {p : Part} {s t u : State} (h : p.Same s t) (h' : p.Same t u) : p.Same s u := by
  cases p <;> exact Eq.trans h' h

/-- What the taking and the answering of a host command can write, whatever the command (R25 to R27). -/
def Part.answering : List Part := [.commands, .responses, .commandsDiscarded]

/-- What an execution of the command does at the blocks, besides its taking and its answering. -/
def actingParts : Instr → List Part
  | .dataOctet _ | .idle | .start | .abort | .lossOfLock => [.receiver, .counters, .lane, .store, .outbound]
  | .endFrame =>
    [.receiver, .counters, .intake, .commands, .lane, .store, .forward, .forwardsDropped, .outbound]
  | .powerOnReset _ | .transmissionEnd =>
    [.station, .outbound, .receiver, .intake, .commands, .counters, .runState, .runNumber, .config, .blockSize,
      .commandsDiscarded, .channels, .zero, .odo, .loc, .mse, .parameters, .measures, .limits, .detectors, .ext, .slots,
      .accumulators, .lane, .alerts, .forward, .store, .responses, .locations, .locationLost, .segments, .segmentLost,
      .buffers, .closedOrder, .skippedRows, .forwardsDropped, .odoToLoc, .mseToExd, .mseToStu]
  | .readStatus => [.counters, .commandsDiscarded, .forwardsDropped]
  | .startCommand =>
    [.runState, .runNumber, .zero, .odo, .loc, .mse, .detectors, .ext, .accumulators, .locations, .locationLost, .buffers]
  | .stop => [.runState, .detectors, .ext, .segments, .segmentLost, .buffers, .closedOrder]
  | .suspend => [.runState, .detectors, .ext, .buffers, .closedOrder]
  | .resume => [.runState, .runNumber, .odo, .loc, .locations, .locationLost]
  | .setPosition => [.loc, .locations, .locationLost]
  | .setConfig => [.config]
  | .setStream => [.blockSize, .buffers, .closedOrder]
  | .writeChannel => [.channels]
  | .zero => [.zero]
  | .writeParameter => [.mse, .parameters]
  | .writeMeasure => [.mse, .measures]
  | .rebase => [.mse]
  | .writeLimits => [.limits]
  | .writeMark | .deleteMark | .clearMarks | .appendSection | .clearSections => [.loc]
  | .writeSlot => [.slots, .accumulators]
  | .resetStats => [.accumulators]
  | .frameTake => [.intake, .channels, .zero, .responses]
  | .zeroTimeout => [.channels, .zero, .responses]
  | .zeroResponsePlaced => [.zero, .responses]
  | .frameEvent => [.odo, .odoToLoc]
  | .silenceExpiry => [.odo]
  | .reverseLimitRequest => [.runState, .detectors, .ext, .locations, .locationLost, .buffers, .closedOrder]
  | .markHandoff => [.odoToLoc, .loc, .locations, .locationLost]
  | .locSample => [.odoToLoc, .loc]
  | .locGapNotice => [.odoToLoc]
  | .sampleEvent | .gapEvent => [.mse, .mseToExd, .mseToStu]
  | .rowEvent => [.mseToExd, .detectors, .ext, .alerts]
  | .exdGapNotice => [.mseToExd, .detectors, .ext]
  | .stuRowEvent => [.mseToStu, .accumulators, .segments, .segmentLost]
  | .stuGapNotice => [.mseToStu]
  | .ltxRow => [.buffers, .closedOrder, .skippedRows]
  | .ltxGapNotice => [.buffers, .closedOrder]
  | .arbiterChoice =>
    [.lane, .alerts, .responses, .locations, .ext, .segments, .buffers, .closedOrder, .outbound]
  | _ => []

/-- The command can write the part. -/
def writes (c : Instr) (p : Part) : Bool :=
  (actingParts c).contains p || (isHostCommand c && Part.answering.contains p)

/-! ### What each shared operation leaves unchanged -/

theorem discardFrame_frame (s : State) (f : Assembly) : ∃ lane store outbound,
    s.discardFrame f = { s with ltx := { s.ltx with lane := lane, store := store }, outbound := outbound } := by
  unfold State.discardFrame State.dropNotice
  split
  · split
    · exact ⟨_, _, _, rfl⟩
    · exact ⟨_, _, _, rfl⟩
  · exact ⟨_, _, _, rfl⟩

theorem queueStored_frame (l : Ltx) : ∃ forward store dropped,
    l.queueStored = { l with forward := forward, store := store, forwardsDropped := dropped } := by
  unfold Ltx.queueStored
  split
  · exact ⟨_, _, _, rfl⟩
  · split
    · exact ⟨_, _, _, rfl⟩
    · exact ⟨_, _, _, rfl⟩

theorem endNotice_parts (s : State) : ∃ lane forward store dropped outbound, s.endNotice = { s with
    ltx := { s.ltx with lane := lane, forward := forward, store := store, forwardsDropped := dropped }
    outbound := outbound } := by
  unfold State.endNotice
  split
  · exact ⟨_, _, _, _, _, rfl⟩
  · obtain ⟨forward, store, dropped, h⟩ := queueStored_frame s.ltx
    rw [h]
    exact ⟨_, _, _, _, _, rfl⟩

theorem takeSensor_frame (l : Lrx) (e : SensorEntry) : ∃ intake counters,
    l.takeSensor e = { l with intake := intake, counters := counters } := by
  unfold Lrx.takeSensor
  split
  · exact ⟨_, _, rfl⟩
  · split
    · exact ⟨_, _, rfl⟩
    · exact ⟨_, _, rfl⟩

theorem takeCommand_frame (l : Lrx) (e : CommandEntry) : ∃ commands counters,
    l.takeCommand e = { l with commands := commands, counters := counters } := by
  unfold Lrx.takeCommand
  split
  · exact ⟨_, _, rfl⟩
  · exact ⟨_, _, rfl⟩

theorem consume_frame (l : Lrx) (h : Header) (payload : List Octet) : ∃ intake commands counters,
    l.consume h payload = { l with intake := intake, commands := commands, counters := counters } := by
  unfold Lrx.consume
  split
  · split
    · obtain ⟨_, _, h⟩ := takeSensor_frame l (sensorEntry payload)
      exact ⟨_, _, _, h⟩
    · exact ⟨_, _, _, rfl⟩
  · split
    · obtain ⟨_, _, h⟩ := takeCommand_frame l ⟨h.source, h.destination == 255, payload⟩
      exact ⟨_, _, _, h⟩
    · exact ⟨_, _, _, rfl⟩

theorem afterGood_frame (l : Lrx) (h : Header) (payload : List Octet) : ∃ intake commands counters,
    l.afterGood h payload =
      { l with receiver := .ready, intake := intake, commands := commands, counters := counters } := by
  unfold Lrx.afterGood
  obtain ⟨_, _, _, hc⟩ := consume_frame (l.move .ready l.counters.good) h payload
  cases h.disposition with
  | forward => exact ⟨_, _, _, rfl⟩
  | remove => exact ⟨_, _, _, rfl⟩
  | consume => exact ⟨_, _, _, hc⟩
  | consumeAndForward => exact ⟨_, _, _, hc⟩

theorem judgeFrame_frame (s : State) (f : Assembly) :
    ∃ intake commands counters lane forward store dropped outbound, s.judgeFrame f = { s with
      lrx := { s.lrx with receiver := .ready, intake := intake, commands := commands, counters := counters }
      ltx := { s.ltx with lane := lane, forward := forward, store := store, forwardsDropped := dropped }
      outbound := outbound } := by
  unfold State.judgeFrame
  obtain ⟨_, _, _, hdiscard⟩ := discardFrame_frame s f
  split
  · exact ⟨_, _, _, _, _, _, _, _, rfl⟩
  · next h hf =>
    split
    · rw [discardFrame_withLrx, hdiscard]
      exact ⟨_, _, _, _, _, _, _, _, rfl⟩
    · split
      · rw [goodFrame_eq]
        obtain ⟨_, _, _, hgood⟩ := afterGood_frame s.lrx h (f.payload h)
        obtain ⟨_, _, _, _, _, hend⟩ := endNotice_parts s
        rw [hgood, hend]
        split
        · exact ⟨_, _, _, _, _, _, _, _, rfl⟩
        · exact ⟨_, _, _, _, _, _, _, _, rfl⟩
      · rw [discardFrame_withLrx, hdiscard]
        exact ⟨_, _, _, _, _, _, _, _, rfl⟩

theorem arriveEnd_frame (s : State) :
    ∃ receiver intake commands counters lane forward store dropped outbound, s.arriveEnd = { s with
      lrx := { s.lrx with receiver := receiver, intake := intake, commands := commands, counters := counters }
      ltx := { s.ltx with lane := lane, forward := forward, store := store, forwardsDropped := dropped }
      outbound := outbound } := by
  cases h : s.lrx.receiver with
  | hunt => exact ⟨_, _, _, _, _, _, _, _, _, arriveEnd_of_hunt h⟩
  | ready => exact ⟨_, _, _, _, _, _, _, _, _, arriveEnd_of_ready h⟩
  | receiving f =>
    obtain ⟨_, _, _, _, _, _, _, _, hj⟩ := judgeFrame_frame s f
    exact ⟨_, _, _, _, _, _, _, _, _, (arriveEnd_of_receiving h).trans hj⟩

/-- What an arrival other than END can write, wherever the receiver stands. -/
def State.ArrivalFrame (s t : State) : Prop :=
  ∃ lock receiver linkUp counters lane store outbound, t = { s with
    lineLock := lock
    lrx := { s.lrx with receiver := receiver, linkUp := linkUp, counters := counters }
    ltx := { s.ltx with lane := lane, store := store }
    outbound := outbound }

theorem arrivalFrame_discard (s : State) (lock : Bool) (r : Receiver) (up : Bool) (c : LinkCounters) (f : Assembly) :
    s.ArrivalFrame (((s.withLineLock lock).withLrx
      { s.lrx with receiver := r, linkUp := up, counters := c }).discardFrame f) := by
  obtain ⟨_, _, _, h⟩ := discardFrame_frame s f
  rw [discardFrame_withLrx, discardFrame_withLineLock, h]
  exact ⟨_, _, _, _, _, _, _, rfl⟩

/-- R7, R13: a frame being assembled goes on, and one notice about it may reach LTX. -/
theorem arrivalFrame_continue (s : State) (r : Receiver) (c : Prop) [Decidable c] {u : State}
    (hu : ∃ lane store outbound, u = { s.withLrx { s.lrx with receiver := r } with
      ltx := { s.ltx with lane := lane, store := store }, outbound := outbound }) :
    s.ArrivalFrame (if c then u else s.withLrx { s.lrx with receiver := r }) := by
  obtain ⟨_, _, _, rfl⟩ := hu
  split
  · exact ⟨_, _, _, _, _, _, _, rfl⟩
  · exact ⟨_, _, _, _, _, _, _, rfl⟩

theorem frameStartNotice_parts (s : State) (head : List Octet) : ∃ lane store outbound,
    s.frameStartNotice head = { s with ltx := { s.ltx with lane := lane, store := store }, outbound := outbound } := by
  unfold State.frameStartNotice
  split
  · exact ⟨_, _, _, rfl⟩
  · exact ⟨_, _, _, rfl⟩

theorem handOctet_parts (s : State) (b : Octet) : ∃ lane store outbound,
    s.handOctet b = { s with ltx := { s.ltx with lane := lane, store := store }, outbound := outbound } := by
  unfold State.handOctet
  split
  · exact ⟨_, _, _, rfl⟩
  · exact ⟨_, _, _, rfl⟩

theorem headerOctet_frame (s : State) (f : Assembly) (b : Octet) : s.ArrivalFrame (s.headerOctet f b) := by
  unfold State.headerOctet
  dsimp only
  split
  · exact ⟨_, _, _, _, _, _, _, rfl⟩
  · split
    · exact ⟨_, _, _, _, _, _, _, rfl⟩
    · exact arrivalFrame_continue s _ _ (frameStartNotice_parts _ _)

theorem bodyOctet_frame (s : State) (f : Assembly) (h : Header) (b : Octet) : s.ArrivalFrame (s.bodyOctet f h b) := by
  unfold State.bodyOctet
  dsimp only
  split
  · exact arrivalFrame_discard s s.lineLock .hunt s.lrx.linkUp _ f
  · exact arrivalFrame_continue s _ _ (handOctet_parts _ _)

theorem arriveOctet_frame (s : State) (b : Octet) : s.ArrivalFrame (s.arriveOctet b) := by
  unfold State.arriveOctet
  split
  · exact ⟨_, _, _, _, _, _, _, rfl⟩
  · exact ⟨_, _, _, _, _, _, _, rfl⟩
  · split
    · exact headerOctet_frame s _ b
    · exact bodyOctet_frame s _ _ b

theorem arriveIdle_frame (s : State) : s.ArrivalFrame s.arriveIdle := by
  unfold State.arriveIdle
  split
  · exact ⟨_, _, _, _, _, _, _, rfl⟩
  · exact ⟨_, _, _, _, _, _, _, rfl⟩
  · exact arrivalFrame_discard s s.lineLock .ready s.lrx.linkUp _ _

theorem arriveStart_frame (s : State) : s.ArrivalFrame s.arriveStart := by
  unfold State.arriveStart
  split
  · exact ⟨_, _, _, _, _, _, _, rfl⟩
  · exact ⟨_, _, _, _, _, _, _, rfl⟩
  · exact arrivalFrame_discard s s.lineLock (.receiving .fresh) s.lrx.linkUp _ _

theorem arriveAbort_frame (s : State) : s.ArrivalFrame s.arriveAbort := by
  unfold State.arriveAbort
  split
  · exact ⟨_, _, _, _, _, _, _, rfl⟩
  · exact ⟨_, _, _, _, _, _, _, rfl⟩
  · exact arrivalFrame_discard s s.lineLock .ready s.lrx.linkUp _ _

theorem loseLock_frame (s : State) : s.ArrivalFrame s.loseLock := by
  unfold State.loseLock
  dsimp only
  split
  · exact arrivalFrame_discard s false .hunt false _ _
  · exact ⟨_, _, _, _, _, _, _, rfl⟩

theorem offerLocation_frame (l : Ltx) (r : LocationRecord) : ∃ locations lost,
    l.offerLocation r = { l with locations := locations, locationLost := lost } := by
  rcases offerLocation_cases l r with ⟨_, h⟩ | ⟨_, h⟩
  · exact ⟨_, _, h⟩
  · exact ⟨_, _, h⟩

theorem offerSegment_frame (l : Ltx) (r : SegmentRecord) : ∃ segments lost,
    l.offerSegment r = { l with segments := segments, segmentLost := lost } := by
  rcases offerSegment_cases l r with ⟨_, h⟩ | ⟨_, h⟩
  · exact ⟨_, _, h⟩
  · exact ⟨_, _, h⟩

theorem emitLocation_frame (s : State) (kind : LocationKind) (measured : Int) : ∃ locations lost,
    s.emitLocation kind measured = { s with ltx := { s.ltx with locations := locations, locationLost := lost } } := by
  obtain ⟨_, _, h⟩ := offerLocation_frame s.ltx (s.loc.record kind measured)
  exact ⟨_, _, congrArg s.withLtx h⟩

theorem placeSegment_frame (s : State) (r : Option SegmentRecord) : ∃ segments lost,
    s.placeSegment r = { s with ltx := { s.ltx with segments := segments, segmentLost := lost } } := by
  cases r with
  | none => exact ⟨_, _, rfl⟩
  | some x =>
    obtain ⟨_, _, h⟩ := offerSegment_frame s.ltx x
    exact ⟨_, _, congrArg s.withLtx h⟩

theorem placeZero_frame (s : State) : ∃ zero responses, s.placeZero = { s with
    cal := { s.cal with zero := zero }, ltx := { s.ltx with responses := responses } } := by
  unfold State.placeZero
  split
  · split
    · exact ⟨_, _, rfl⟩
    · exact ⟨_, _, rfl⟩
  · exact ⟨_, _, rfl⟩

theorem expireZero_frame (s : State) : ∃ channels zero responses, s.expireZero = { s with
    cal := { s.cal with channels := channels, zero := zero }, ltx := { s.ltx with responses := responses } } := by
  unfold State.expireZero
  split
  · next z hz =>
    obtain ⟨_, _, h⟩ := placeZero_frame (s.withCal (s.cal.endZero z .timeout))
    exact ⟨_, _, _, h⟩
  · exact ⟨_, _, _, rfl⟩

theorem completeZero_frame (s : State) : ∃ channels zero responses, s.completeZero = { s with
    cal := { s.cal with channels := channels, zero := zero }, ltx := { s.ltx with responses := responses } } := by
  unfold State.completeZero
  split
  · next z hz =>
    split
    · obtain ⟨_, _, h⟩ := placeZero_frame (s.withCal (s.cal.endZero z .ok))
      exact ⟨_, _, _, h⟩
    · exact ⟨_, _, _, rfl⟩
  · exact ⟨_, _, _, rfl⟩

theorem takeFrame_frame (s : State) : ∃ intake cal responses, s.takeFrame = { s with
    lrx := { s.lrx with intake := intake }, cal := cal, ltx := { s.ltx with responses := responses } } := by
  unfold State.takeFrame
  split
  · exact ⟨_, _, _, rfl⟩
  · next e he =>
    obtain ⟨_, _, _, h⟩ :=
      completeZero_frame ((s.withLrx { s.lrx with intake := s.lrx.intake.tail }).withCal (s.cal.take e))
    exact ⟨_, _, _, h⟩

theorem loseLocationIfRolledBack_frame (s : State) : ∃ loc locations lost, s.loseLocationIfRolledBack = { s with
    loc := loc, ltx := { s.ltx with locations := locations, locationLost := lost } } := by
  unfold State.loseLocationIfRolledBack State.locationLost
  split
  · obtain ⟨_, _, h⟩ := emitLocation_frame (s.withLoc { s.loc with located := false, cursor := none })
      (.locationLost s.loc.located) s.odo.measured
    exact ⟨_, _, _, h⟩
  · exact ⟨_, _, _, rfl⟩

theorem startRun_frame (s : State) : ∃ loc locations lost, s.startRun = { s with
    cmu := s.cmu.enterMeasuring
    odo := s.odo.startNotice s.cmu.config
    loc := loc
    mse := s.mse.clear
    exd := s.exd.resetDetectors
    ext := s.ext.startNotice
    stu := s.stu.startNotice
    ltx := { s.ltx.startNotice with locations := locations, locationLost := lost } } := by
  obtain ⟨_, _, _, h⟩ := loseLocationIfRolledBack_frame (s.withCmu s.cmu.enterMeasuring)
  unfold State.startRun State.startOdometry State.startRecords
  dsimp only
  rw [h]
  exact ⟨_, _, _, rfl⟩

theorem closeRowBlock_frame (s : State) : ∃ buffers order,
    s.closeRowBlock = { s with ltx := { s.ltx with buffers := buffers, closedOrder := order } } :=
  ⟨_, _, congrArg s.withLtx (closeBlock_frame s.ltx)⟩

/-- R148: of EXD a reset of the detectors leaves the limit sets as they stand. -/
theorem resetDetectors_frame (x : Exd) : ∃ detectors, x.resetDetectors = { x with detectors := detectors } := ⟨_, rfl⟩

theorem suspendRun_frame (s : State) (cause : SuspendCause) : ∃ buffers order, s.suspendRun cause = { s with
    cmu := s.cmu.setRunState (.suspended cause)
    exd := s.exd.resetDetectors
    ext := s.ext.truncate s.cmu.config
    ltx := { s.ltx with buffers := buffers, closedOrder := order } } := by
  obtain ⟨_, _, h⟩ :=
    closeRowBlock_frame (s.withCmu (s.cmu.setRunState (.suspended cause))).endExceedances
  exact ⟨_, _, h⟩

theorem endExceedances_frame (s : State) : ∃ detectors, s.endExceedances = { s with
    exd := { s.exd with detectors := detectors }, ext := s.ext.truncate s.cmu.config } := by
  obtain ⟨_, hexd⟩ := resetDetectors_frame s.exd
  rw [State.endExceedances, hexd]
  exact ⟨_, rfl⟩

/-- R175: of STU the stop notice leaves the slots and their accumulators as they stand. -/
theorem stopNotice_stu_frame (x : Stu) : ∃ segment, x.stopNotice.1 = { x with segment := segment } := by
  unfold Stu.stopNotice
  split
  · exact ⟨_, rfl⟩
  · exact ⟨_, rfl⟩

theorem stopSegment_frame (s : State) : ∃ segment segments lost, s.stopSegment = { s with
    stu := { s.stu with segment := segment }, ltx := { s.ltx with segments := segments, segmentLost := lost } } := by
  obtain ⟨_, hstu⟩ := stopNotice_stu_frame s.stu
  obtain ⟨_, _, h⟩ := placeSegment_frame (s.withStu s.stu.stopNotice.1) s.stu.stopNotice.2
  rw [State.stopSegment, h, hstu]
  exact ⟨_, _, _, rfl⟩

theorem stopNotice_frame (s : State) : ∃ detectors segment segments lost buffers order, s.stopNotice = { s with
    exd := { s.exd with detectors := detectors }
    ext := s.ext.truncate s.cmu.config
    stu := { s.stu with segment := segment }
    ltx := { s.ltx with
      segments := segments, segmentLost := lost, buffers := buffers, closedOrder := order } } := by
  obtain ⟨_, hend⟩ := endExceedances_frame s
  obtain ⟨_, _, _, hseg⟩ := stopSegment_frame s.endExceedances
  obtain ⟨_, _, hclose⟩ := closeRowBlock_frame s.endExceedances.stopSegment
  rw [State.stopNotice, hclose, hseg, hend]
  exact ⟨_, _, _, _, _, _, rfl⟩

theorem takeReverseRequest_frame (s : State) :
    ∃ runState detectors ext locations lost buffers order links, s.takeReverseRequest = { s with
      cmu := { s.cmu with runState := runState }
      exd := { s.exd with detectors := detectors }
      ext := ext
      ltx := { s.ltx with
        locations := locations, locationLost := lost, buffers := buffers, closedOrder := order }
      links := { s.links with reverseRequest := links } } := by
  unfold State.takeReverseRequest State.reverseSuspendRecord
  split
  · exact ⟨_, _, _, _, _, _, _, _, rfl⟩
  · dsimp only
    split
    · obtain ⟨_, _, hrun⟩ := suspendRun_frame (s.withLinks { s.links with reverseRequest := none }) .reverse
      rw [hrun]
      obtain ⟨_, _, hemit⟩ := emitLocation_frame _ _ _
      rw [hemit]
      exact ⟨_, _, _, _, _, _, _, _, rfl⟩
    · exact ⟨_, _, _, _, _, _, _, _, rfl⟩

theorem markHandoff_frame (s : State) : ∃ odoToLoc loc locations lost, s.markHandoff = { s with
    loc := loc
    ltx := { s.ltx with locations := locations, locationLost := lost }
    links := { s.links with odoToLoc := odoToLoc } } := by
  unfold State.markHandoff
  split
  · dsimp only
    split
    · exact ⟨_, _, _, _, rfl⟩
    · obtain ⟨_, _, hemit⟩ := emitLocation_frame (s.dropLocItem.withLoc (s.loc.judgeMark _ _).1) _ _
      rw [hemit]
      exact ⟨_, _, _, _, rfl⟩
  · exact ⟨_, _, _, _, rfl⟩

theorem locSample_frame (s : State) : ∃ loc odoToLoc locToMse, s.locSample = { s with
    loc := loc, links := { s.links with odoToLoc := odoToLoc, locToMse := locToMse } } := by
  unfold State.locSample
  split
  · split
    · exact ⟨_, _, _, rfl⟩
    · exact ⟨_, _, _, rfl⟩
  · exact ⟨_, _, _, rfl⟩

theorem locGap_frame (s : State) : ∃ odoToLoc locToMse, s.locGap = { s with
    links := { s.links with odoToLoc := odoToLoc, locToMse := locToMse } } := by
  unfold State.locGap
  split
  · split
    · exact ⟨_, _, rfl⟩
    · exact ⟨_, _, rfl⟩
  · exact ⟨_, _, rfl⟩

/-- R111: of MSE a sample leaves both tables as they stand. -/
theorem takeSample_frame (x : Mse) (table : Vector ChannelEntry 12) (detectors : Vector Detector 16) (delay : Nat)
    (y : LocatedSample) : ∃ baselines, (x.takeSample table detectors delay y).1 =
      { x.writeSample table y with baselines := baselines } := by
  unfold Mse.takeSample
  dsimp only
  split
  · exact ⟨_, rfl⟩
  · exact ⟨_, rfl⟩

theorem sampleEvent_frame (s : State) : ∃ history newest baselines, ∃ links : Links, s.sampleEvent = { s with
    mse := { s.mse with history := history, newest := newest, baselines := baselines }
    links := { links with odoToLoc := s.links.odoToLoc } } := by
  unfold State.sampleEvent
  split
  · next y hy =>
    dsimp only
    split
    · obtain ⟨_, htake⟩ := takeSample_frame s.mse s.cal.channels s.exd.detectors s.cmu.config.alignDelay y
      rw [htake]
      split
      · exact ⟨_, _, _, s.links.takenByMse, rfl⟩
      · exact ⟨_, _, _, s.links.takenByMse.handOn _, rfl⟩
    · exact ⟨_, _, _, s.links.takenByMse, rfl⟩
  · exact ⟨_, _, _, s.links, rfl⟩

theorem gapEvent_frame (s : State) : ∃ history newest baselines, ∃ links : Links, s.gapEvent = { s with
    mse := { s.mse with history := history, newest := newest, baselines := baselines }
    links := { links with odoToLoc := s.links.odoToLoc } } := by
  unfold State.gapEvent
  split
  · split
    · exact ⟨_, _, _, s.links.takenByMse.handOn _, rfl⟩
    · exact ⟨_, _, _, s.links.takenByMse, rfl⟩
  · exact ⟨_, _, _, s.links, rfl⟩

/-- R134: of EXD a row leaves the limit sets as they stand. -/
theorem exdTakeRow_frame (x : Exd) (measures : Vector MeasureEntry 16) (r : Row) : ∃ detectors,
    x.takeRow measures r = { x with detectors := detectors } := ⟨_, rfl⟩

theorem rowEvent_frame (s : State) : ∃ detectors ext alerts mseToExd, s.rowEvent = { s with
    exd := { s.exd with detectors := detectors }
    ext := ext
    ltx := { s.ltx with alerts := alerts }
    links := { s.links with mseToExd := mseToExd } } := by
  unfold State.rowEvent
  split
  · next r _ =>
    obtain ⟨_, hexd⟩ := exdTakeRow_frame s.exd s.mse.measures r
    dsimp only
    rw [hexd]
    split
    · exact ⟨_, _, _, _, rfl⟩
    · exact ⟨_, _, _, _, rfl⟩
  · exact ⟨_, _, _, _, rfl⟩

theorem exdGap_frame (s : State) : ∃ detectors ext mseToExd, s.exdGap = { s with
    exd := { s.exd with detectors := detectors }
    ext := ext
    links := { s.links with mseToExd := mseToExd } } := by
  unfold State.exdGap
  split
  · dsimp only
    split
    · obtain ⟨_, h⟩ := endExceedances_frame (s.withLinks s.links.takenByExd)
      rw [h]
      exact ⟨_, _, _, rfl⟩
    · exact ⟨_, _, _, rfl⟩
  · exact ⟨_, _, _, rfl⟩

theorem countRow_frame (x : Stu) (r : Row) (openCount : Nat) : ∃ accumulators edges segment,
    x.countRow r openCount = { x with accumulators := accumulators, edges := edges, segment := segment } := by
  unfold Stu.countRow
  split
  · exact ⟨_, _, _, rfl⟩
  · exact ⟨_, _, _, rfl⟩

theorem segmentTest_frame (x : Stu) (c : ConfigRecord) (r : Row) : ∃ accumulators segment after,
    (x.segmentTest c r).1 = { x with accumulators := accumulators, segment := segment, openAfterStart := after } := by
  unfold Stu.segmentTest
  split
  · exact ⟨_, _, _, rfl⟩
  · split
    · exact ⟨_, _, _, rfl⟩
    · split
      · exact ⟨_, _, _, rfl⟩
      · exact ⟨_, _, _, rfl⟩

/-- R171: a row leaves the slot entries of STU as they stand. -/
theorem stuTakeRow_frame (x : Stu) (c : ConfigRecord) (r : Row) (openCount : Nat) :
    ∃ accumulators edges segment after, (x.takeRow c r openCount).1 = { x with
      accumulators := accumulators, edges := edges, segment := segment, openAfterStart := after } := by
  obtain ⟨_, _, _, htest⟩ := segmentTest_frame x c r
  obtain ⟨_, _, _, hcount⟩ := countRow_frame (x.segmentTest c r).1 r openCount
  rw [htest] at hcount
  exact ⟨_, _, _, _, (congrArg (Stu.countRow · r openCount) htest).trans hcount⟩

theorem stuRow_frame (s : State) : ∃ accumulators edges segment after segments lost mseToStu, s.stuRow = { s with
    stu := { s.stu with
      accumulators := accumulators, edges := edges, segment := segment, openAfterStart := after }
    ltx := { s.ltx with segments := segments, segmentLost := lost }
    links := { s.links with mseToStu := mseToStu } } := by
  unfold State.stuRow
  split
  · next r hr =>
    split
    · dsimp only
      split
      · obtain ⟨_, _, _, _, htake⟩ := stuTakeRow_frame s.stu s.cmu.config r s.ext.openCount
        obtain ⟨_, _, hplace⟩ := placeSegment_frame
          ((s.withLinks s.links.takenByStu).withStu (s.stu.takeRow s.cmu.config r s.ext.openCount).1)
          (s.stu.takeRow s.cmu.config r s.ext.openCount).2
        rw [hplace, htake]
        exact ⟨_, _, _, _, _, _, _, rfl⟩
      · exact ⟨_, _, _, _, _, _, _, rfl⟩
    · exact ⟨_, _, _, _, _, _, _, rfl⟩
  · exact ⟨_, _, _, _, _, _, _, rfl⟩

theorem stuGap_frame (s : State) : ∃ edges mseToStu, s.stuGap = { s with
    stu := { s.stu with edges := edges }, links := { s.links with mseToStu := mseToStu } } := by
  unfold State.stuGap
  split
  · dsimp only
    split
    · exact ⟨_, _, rfl⟩
    · exact ⟨_, _, rfl⟩
  · exact ⟨_, _, rfl⟩

theorem closeBuffer_frame (l : Ltx) (i : Fin 2) : ∃ buffers order,
    l.closeBuffer i = { l with buffers := buffers, closedOrder := order } := by
  rcases closeBuffer_cases l i with ⟨_, h⟩ | ⟨b, _, h⟩
  · exact ⟨_, _, h⟩
  · exact ⟨_, _, h⟩

theorem closeIfFull_frame (l : Ltx) (i : Fin 2) : ∃ buffers order,
    l.closeIfFull i = { l with buffers := buffers, closedOrder := order } := by
  unfold Ltx.closeIfFull
  split
  · split
    · exact closeBuffer_frame l i
    · exact ⟨_, _, rfl⟩
  · exact ⟨_, _, rfl⟩

theorem ltxTakeRow_frame (l : Ltx) (mask : Half) (size : Nat) (r : Row) : ∃ buffers order skipped mark,
    l.takeRow mask size r =
      { l with buffers := buffers, closedOrder := order, skippedRows := skipped, gapMark := mark } := by
  unfold Ltx.takeRow
  split
  · next i b _ =>
    obtain ⟨_, _, h⟩ := closeIfFull_frame
      { l with buffers := l.buffers.set i (.filling { b with rows := b.rows ++ [r] }) } i
    exact ⟨_, _, _, _, h⟩
  · next i _ _ =>
    obtain ⟨_, _, h⟩ := closeIfFull_frame
      { l with
        buffers := l.buffers.set i (.filling
          { mask := mask, effectiveSize := effectiveSize mask size, skipped := l.skippedRows, gapBefore := l.gapMark,
            rows := [r] })
        skippedRows := 0
        gapMark := false } i
    exact ⟨_, _, _, _, h⟩
  · exact ⟨_, _, _, _, rfl⟩

theorem ltxRow_frame (s : State) : ∃ buffers order skipped mark mseToLtx, s.ltxRow = { s with
    ltx := { s.ltx with buffers := buffers, closedOrder := order, skippedRows := skipped, gapMark := mark }
    links := { s.links with mseToLtx := mseToLtx } } := by
  unfold State.ltxRow
  split
  · next r _ =>
    dsimp only
    split
    · obtain ⟨_, _, _, _, h⟩ := ltxTakeRow_frame s.ltx s.cmu.streamMask s.cmu.blockSize r
      rw [h]
      exact ⟨_, _, _, _, _, rfl⟩
    · exact ⟨_, _, _, _, _, rfl⟩
  · exact ⟨_, _, _, _, _, rfl⟩

theorem ltxGap_frame (s : State) : ∃ buffers order mark mseToLtx, s.ltxGap = { s with
    ltx := { s.ltx with buffers := buffers, closedOrder := order, gapMark := mark }
    links := { s.links with mseToLtx := mseToLtx } } := by
  unfold State.ltxGap
  split
  · dsimp only
    split
    · rw [closeBlock_frame]
      exact ⟨_, _, _, _, rfl⟩
    · exact ⟨_, _, _, _, rfl⟩
  · exact ⟨_, _, _, _, rfl⟩

theorem arbiterChoice_frame (s : State) :
    ∃ lane alerts responses locations ext segments buffers order outbound, s.arbiterChoice = { s with
      ext := ext
      ltx := { s.ltx with
        lane := lane, alerts := alerts, responses := responses, locations := locations, segments := segments
        buffers := buffers, closedOrder := order }
      outbound := outbound } := by
  unfold State.arbiterChoice State.chooseFrame State.chooseReports State.chooseRecords State.takeBlock
  split
  · split
    · exact ⟨_, _, _, _, _, _, _, _, _, rfl⟩
    · exact ⟨_, _, _, _, _, _, _, _, _, rfl⟩
    · exact ⟨_, _, _, _, _, _, _, _, _, rfl⟩
    · split
      · exact ⟨_, _, _, _, _, _, _, _, _, rfl⟩
      · exact ⟨_, _, _, _, _, _, _, _, _, rfl⟩
      · split
        · exact ⟨_, _, _, _, _, _, _, _, _, rfl⟩
        · split
          · exact ⟨_, _, _, _, _, _, _, _, _, rfl⟩
          · exact ⟨_, _, _, _, _, _, _, _, _, rfl⟩
        · exact ⟨_, _, _, _, _, _, _, _, _, rfl⟩
  · exact ⟨_, _, _, _, _, _, _, _, _, rfl⟩

theorem transmissionEnd_frame (s : State) :
    s.transmissionEnd.pending = s.pending ∧ s.transmissionEnd.station = s.station := by
  unfold State.transmissionEnd State.completeOwn
  split
  · exact ⟨rfl, rfl⟩
  · exact ⟨rfl, rfl⟩
  · exact ⟨rfl, rfl⟩
  · split
    · exact ⟨rfl, rfl⟩
    · exact ⟨rfl, rfl⟩
    · exact ⟨rfl, rfl⟩
    · split
      · exact ⟨rfl, rfl⟩
      · exact ⟨rfl, rfl⟩
    · exact ⟨rfl, rfl⟩
    · exact ⟨rfl, rfl⟩

/-! ### What the owning blocks of the host commands leave unchanged -/

theorem setPosition_frame (e : CommandEntry) (s : State) : ∃ loc locations lost, (setPosition e s).1 = { s with
    loc := loc, ltx := { s.ltx with locations := locations, locationLost := lost } } := by
  unfold setPosition
  dsimp only
  split
  · obtain ⟨_, _, h⟩ := emitLocation_frame (s.withLoc (s.loc.setPosition (signedField e.args 0 4 - s.odo.measured)))
      (.positionSet (clampPosition (signedField e.args 0 4 - s.odo.measured - s.loc.offset))) s.odo.measured
    exact ⟨_, _, _, h⟩
  · exact ⟨_, _, _, rfl⟩

theorem setConfig_frame (e : CommandEntry) (s : State) : ∃ config,
    (setConfig e s).1 = { s with cmu := { s.cmu with config := config } } := by
  unfold setConfig
  split
  · exact ⟨_, rfl⟩
  · split
    · exact ⟨_, rfl⟩
    · exact ⟨_, rfl⟩

theorem setStream_frame (e : CommandEntry) (s : State) : ∃ mask size buffers order, (setStream e s).1 = { s with
    cmu := { s.cmu with streamMask := mask, blockSize := size }
    ltx := { s.ltx with buffers := buffers, closedOrder := order } } := by
  unfold setStream
  dsimp only
  split
  · rw [closeBlock_frame]
    split
    · exact ⟨_, _, _, _, rfl⟩
    · exact ⟨_, _, _, _, rfl⟩
  · exact ⟨_, _, _, _, rfl⟩

theorem writeChannel_frame (e : CommandEntry) (s : State) : ∃ channels,
    (writeChannel e s).1 = { s with cal := { s.cal with channels := channels } } := by
  unfold writeChannel
  split
  · split
    · exact ⟨_, rfl⟩
    · split
      · exact ⟨_, rfl⟩
      · exact ⟨_, rfl⟩
  · exact ⟨_, rfl⟩

theorem readChannel_frame (e : CommandEntry) (s : State) : (readChannel e s).1 = s := by
  unfold readChannel
  split
  · rfl
  · rfl

theorem writeParameter_frame (e : CommandEntry) (s : State) : ∃ parameters,
    (writeParameter e s).1 = { s with mse := { s.mse with parameters := parameters } } := by
  unfold writeParameter
  split
  · split
    · exact ⟨_, rfl⟩
    · exact ⟨_, rfl⟩
  · exact ⟨_, rfl⟩

theorem readParameter_frame (e : CommandEntry) (s : State) : (readParameter e s).1 = s := by
  unfold readParameter
  split
  · rfl
  · rfl

theorem writeMeasure_frame (e : CommandEntry) (s : State) : ∃ measures baselines,
    (writeMeasure e s).1 = { s with mse := { s.mse with measures := measures, baselines := baselines } } := by
  unfold writeMeasure
  split
  · split
    · exact ⟨_, _, rfl⟩
    · exact ⟨_, _, rfl⟩
  · exact ⟨_, _, rfl⟩

theorem readMeasure_frame (e : CommandEntry) (s : State) : (readMeasure e s).1 = s := by
  unfold readMeasure
  split
  · rfl
  · rfl

theorem rebase_frame (e : CommandEntry) (s : State) : ∃ baselines,
    (Machine.rebase e s).1 = { s with mse := { s.mse with baselines := baselines } } := ⟨_, rfl⟩

theorem writeLimits_frame (e : CommandEntry) (s : State) : ∃ limits,
    (writeLimits e s).1 = { s with exd := { s.exd with limits := limits } } := by
  unfold writeLimits
  split
  · split
    · exact ⟨_, rfl⟩
    · split
      · exact ⟨_, rfl⟩
      · exact ⟨_, rfl⟩
  · exact ⟨_, rfl⟩

theorem readLimits_frame (e : CommandEntry) (s : State) : (readLimits e s).1 = s := by
  unfold readLimits
  split
  · rfl
  · rfl

theorem writeMark_frame (e : CommandEntry) (s : State) : ∃ loc, (writeMark e s).1 = { s with loc := loc } := by
  unfold writeMark
  dsimp only
  split
  · exact ⟨_, rfl⟩
  · split
    · exact ⟨_, rfl⟩
    · exact ⟨_, rfl⟩

theorem deleteMark_frame (e : CommandEntry) (s : State) : ∃ loc, (deleteMark e s).1 = { s with loc := loc } := by
  unfold deleteMark
  dsimp only
  split
  · exact ⟨_, rfl⟩
  · split
    · exact ⟨_, rfl⟩
    · exact ⟨_, rfl⟩

theorem readMark_frame (e : CommandEntry) (s : State) : (readMark e s).1 = s := by
  unfold readMark
  dsimp only
  split
  · rfl
  · split
    · rfl
    · rfl

theorem appendSection_frame (e : CommandEntry) (s : State) : ∃ loc, (appendSection e s).1 = { s with loc := loc } := by
  unfold appendSection
  split
  · exact ⟨_, rfl⟩
  · split
    · exact ⟨_, rfl⟩
    · split
      · exact ⟨_, rfl⟩
      · exact ⟨_, rfl⟩

theorem readSection_frame (e : CommandEntry) (s : State) : (readSection e s).1 = s := by
  unfold readSection
  split
  · rfl
  · split
    · rfl
    · rfl

theorem writeSlot_frame (e : CommandEntry) (s : State) : ∃ slots accumulators edges, (writeSlot e s).1 = { s with
    stu := { s.stu with slots := slots, accumulators := accumulators, edges := edges } } := by
  unfold writeSlot
  split
  · split
    · exact ⟨_, _, _, rfl⟩
    · exact ⟨_, _, _, rfl⟩
  · exact ⟨_, _, _, rfl⟩

theorem readSlot_frame (e : CommandEntry) (s : State) : (readSlot e s).1 = s := by
  unfold readSlot
  split
  · rfl
  · rfl

theorem freeze_frame (e : CommandEntry) (s : State) : ∃ segment frozen,
    (freeze e s).1 = { s with stu := { s.stu with segment := segment, frozen := frozen } } := by
  unfold freeze Stu.freeze
  split
  · exact ⟨_, _, rfl⟩
  · exact ⟨_, _, rfl⟩

theorem resetStats_frame (e : CommandEntry) (s : State) : ∃ accumulators segment,
    (resetStats e s).1 = { s with stu := { s.stu with accumulators := accumulators, segment := segment } } := ⟨_, _, rfl⟩

theorem startCommand_frame (e : CommandEntry) (s : State) : ∃ loc locations lost zero, (startCommand e s).1 = { s with
    cmu := s.cmu.enterMeasuring
    cal := { s.cal with zero := zero }
    odo := s.odo.startNotice s.cmu.config
    loc := loc
    mse := s.mse.clear
    exd := s.exd.resetDetectors
    ext := s.ext.startNotice
    stu := s.stu.startNotice
    ltx := { s.ltx.startNotice with locations := locations, locationLost := lost } } := by
  obtain ⟨_, _, _, hrun⟩ := startRun_frame s
  have hzero : ∃ zero, s.cal.abortZero = { s.cal with zero := zero } := by
    unfold Cal.abortZero
    split
    · exact ⟨_, rfl⟩
    · exact ⟨_, rfl⟩
  obtain ⟨_, hzero⟩ := hzero
  rw [startCommand, hrun, hzero]
  exact ⟨_, _, _, _, rfl⟩

theorem stop_frame (e : CommandEntry) (s : State) : ∃ runState detectors ext segment segments lost buffers order,
    (stop e s).1 = { s with
      cmu := { s.cmu with runState := runState }
      exd := { s.exd with detectors := detectors }
      ext := ext
      stu := { s.stu with segment := segment }
      ltx := { s.ltx with
        segments := segments, segmentLost := lost, buffers := buffers, closedOrder := order } } := by
  unfold stop
  split
  · exact ⟨_, _, _, _, _, _, _, _, rfl⟩
  · obtain ⟨_, _, _, _, _, _, h⟩ := stopNotice_frame (s.withCmu (s.cmu.setRunState .stopped))
    rw [h]
    exact ⟨_, _, _, _, _, _, _, _, rfl⟩

theorem suspend_frame (e : CommandEntry) (s : State) : ∃ runState detectors ext buffers order,
    (suspend e s).1 = { s with
      cmu := { s.cmu with runState := runState }
      exd := { s.exd with detectors := detectors }
      ext := ext
      ltx := { s.ltx with buffers := buffers, closedOrder := order } } := by
  obtain ⟨_, _, h⟩ := suspendRun_frame s .command
  obtain ⟨_, hexd⟩ := resetDetectors_frame s.exd
  rw [suspend, h, hexd]
  exact ⟨_, _, _, _, _, rfl⟩

theorem resume_frame (e : CommandEntry) (s : State) : ∃ loc locations lost, (resume e s).1 = { s with
    cmu := s.cmu.enterMeasuring
    odo := s.odo.resumeNotice
    loc := loc
    ltx := { s.ltx with locations := locations, locationLost := lost } } := by
  obtain ⟨_, _, _, h⟩ := loseLocationIfRolledBack_frame (s.withCmu s.cmu.enterMeasuring)
  unfold resume State.resumeOdometry
  dsimp only
  rw [h]
  exact ⟨_, _, _, rfl⟩

theorem readStatus_frame (e : CommandEntry) (s : State) : ∃ counters discarded dropped, (readStatus e s).1 = { s with
    lrx := { s.lrx with counters := counters }
    cmu := { s.cmu with commandsDiscarded := discarded }
    ltx := { s.ltx with forwardsDropped := dropped } } := by
  unfold readStatus
  split
  · exact ⟨_, _, _, rfl⟩
  · split
    · exact ⟨_, _, _, rfl⟩
    · exact ⟨_, _, _, rfl⟩

/-! ### What each command of the table leaves unchanged -/

theorem dropCommand_same {p : Part} (hp : Part.answering.contains p = false) (s : State) : p.Same s s.dropCommand := by
  cases p <;> first | rfl | cases hp

/-- R27: the part of the state is none that an answer can write. -/
theorem answer_same {p : Part} (hp : Part.answering.contains p = false) (s : State) (e : CommandEntry) (r : Reply) :
    p.Same s (s.answer e r) := by
  rcases answer_cases s e r with ⟨_, h⟩ | ⟨_, _, h⟩ | ⟨_, _, h⟩
  · rw [h]
    cases p <;> first | rfl | cases hp
  · rw [h]
    exact .refl p s
  · rw [h]
    cases p <;> first | rfl | cases hp

/-- R25 to R27: an execution keeps the parts that neither the answering nor the owning block can write. -/
theorem runCommand_same {p : Part} (hp : Part.answering.contains p = false) {act : CommandEntry → State → State × Reply}
    (hact : ∀ e u, p.Same u (act e u).1) (s : State) (row : Instr) (allowed : RunState → Bool) :
    p.Same s (s.runCommand row allowed act) :=
  runCommand_keeps (P := p.Same s) (.refl p s) (·.trans (dropCommand_same hp s)) (fun e t h => h.trans (hact e t))
    (fun t e r h => h.trans (answer_same hp t e r))

theorem runZero_same {p : Part} (hp : Part.answering.contains p = false) (hz : p ≠ .zero) (s : State) (e : CommandEntry) :
    p.Same s (s.runZero e) := by
  unfold State.runZero
  split
  · exact answer_same hp s e _
  · split
    · split
      · exact answer_same hp s e _
      · cases p <;> first | rfl | exact absurd rfl hz
    · exact answer_same hp s e _

theorem placeAborted_same {p : Part} (hz : p ≠ .zero) (hr : p ≠ .responses) (s before : State) :
    p.Same s (s.placeAborted before) := by
  unfold State.placeAborted
  split
  · obtain ⟨_, _, h⟩ := placeZero_frame s
    rw [h]
    cases p <;> first | rfl | exact absurd rfl hz | exact absurd rfl hr
  · exact .refl p s

theorem arrivalFrame_same {p : Part} (hp : [Part.receiver, .counters, .lane, .store, .outbound].contains p = false)
    {s t : State} (h : s.ArrivalFrame t) : p.Same s t := by
  obtain ⟨_, _, _, _, _, _, _, rfl⟩ := h
  cases p <;> first | rfl | cases hp

theorem arriveEnd_same {p : Part} (hp : (actingParts .endFrame).contains p = false) (s : State) :
    p.Same s s.arriveEnd := by
  obtain ⟨_, _, _, _, _, _, _, _, _, h⟩ := arriveEnd_frame s
  rw [h]
  cases p <;> first | rfl | cases hp

theorem countDiscarded_same {p : Part} (hp : Part.answering.contains p = false) (s : State) :
    p.Same s s.countDiscarded := by
  cases p <;> first | rfl | cases hp

/-- R25: a head entry that is not taken leaves everything. -/
theorem headCommand_same {p : Part} {s : State} {taken : CommandEntry → State} {o : Option CommandEntry}
    (h : ∀ e, p.Same s (taken e)) : p.Same s (match o with | none => s | some e => taken e) := by
  cases o with
  | none => exact .refl p s
  | some e => exact h e

/-- A part that the command's owning block, or the row itself, does not write is kept by the act of every host command. -/
def ActsKeep (p : Part) (act : CommandEntry → State → State × Reply) : Prop := ∀ e u, p.Same u (act e u).1

theorem readStatus_same {p : Part} (hp : (actingParts .readStatus).contains p = false) : ActsKeep p readStatus := by
  intro e u
  obtain ⟨_, _, _, h⟩ := readStatus_frame e u
  rw [h]
  cases p <;> first | rfl | cases hp

theorem stop_same {p : Part} (hp : (actingParts .stop).contains p = false) : ActsKeep p stop := by
  intro e u
  obtain ⟨_, _, _, _, _, _, _, _, h⟩ := stop_frame e u
  rw [h]
  cases p <;> first | rfl | cases hp

theorem suspend_same {p : Part} (hp : (actingParts .suspend).contains p = false) : ActsKeep p suspend := by
  intro e u
  obtain ⟨_, _, _, _, _, h⟩ := suspend_frame e u
  rw [h]
  cases p <;> first | rfl | cases hp

theorem resume_same {p : Part} (hp : (actingParts .resume).contains p = false) : ActsKeep p resume := by
  intro e u
  obtain ⟨_, _, _, h⟩ := resume_frame e u
  rw [h]
  cases p <;> first | rfl | cases hp

theorem setPosition_same {p : Part} (hp : (actingParts .setPosition).contains p = false) : ActsKeep p setPosition := by
  intro e u
  obtain ⟨_, _, _, h⟩ := setPosition_frame e u
  rw [h]
  cases p <;> first | rfl | cases hp

theorem setConfig_same {p : Part} (hp : (actingParts .setConfig).contains p = false) : ActsKeep p setConfig := by
  intro e u
  obtain ⟨_, h⟩ := setConfig_frame e u
  rw [h]
  cases p <;> first | rfl | cases hp

theorem setStream_same {p : Part} (hp : (actingParts .setStream).contains p = false) : ActsKeep p setStream := by
  intro e u
  obtain ⟨_, _, _, _, h⟩ := setStream_frame e u
  rw [h]
  cases p <;> first | rfl | cases hp

theorem writeChannel_same {p : Part} (hp : (actingParts .writeChannel).contains p = false) : ActsKeep p writeChannel := by
  intro e u
  obtain ⟨_, h⟩ := writeChannel_frame e u
  rw [h]
  cases p <;> first | rfl | cases hp

theorem writeParameter_same {p : Part} (hp : (actingParts .writeParameter).contains p = false) : ActsKeep p writeParameter := by
  intro e u
  obtain ⟨_, h⟩ := writeParameter_frame e u
  rw [h]
  cases p <;> first | rfl | cases hp

theorem writeMeasure_same {p : Part} (hp : (actingParts .writeMeasure).contains p = false) : ActsKeep p writeMeasure := by
  intro e u
  obtain ⟨_, _, h⟩ := writeMeasure_frame e u
  rw [h]
  cases p <;> first | rfl | cases hp

theorem rebase_same {p : Part} (hp : (actingParts .rebase).contains p = false) : ActsKeep p Machine.rebase := by
  intro e u
  obtain ⟨_, h⟩ := rebase_frame e u
  rw [h]
  cases p <;> first | rfl | cases hp

theorem writeLimits_same {p : Part} (hp : (actingParts .writeLimits).contains p = false) : ActsKeep p writeLimits := by
  intro e u
  obtain ⟨_, h⟩ := writeLimits_frame e u
  rw [h]
  cases p <;> first | rfl | cases hp

theorem writeMark_same {p : Part} (hp : (actingParts .writeMark).contains p = false) : ActsKeep p writeMark := by
  intro e u
  obtain ⟨_, h⟩ := writeMark_frame e u
  rw [h]
  cases p <;> first | rfl | cases hp

theorem deleteMark_same {p : Part} (hp : (actingParts .deleteMark).contains p = false) : ActsKeep p deleteMark := by
  intro e u
  obtain ⟨_, h⟩ := deleteMark_frame e u
  rw [h]
  cases p <;> first | rfl | cases hp

theorem appendSection_same {p : Part} (hp : (actingParts .appendSection).contains p = false) : ActsKeep p appendSection := by
  intro e u
  obtain ⟨_, h⟩ := appendSection_frame e u
  rw [h]
  cases p <;> first | rfl | cases hp

theorem writeSlot_same {p : Part} (hp : (actingParts .writeSlot).contains p = false) : ActsKeep p writeSlot := by
  intro e u
  obtain ⟨_, _, _, h⟩ := writeSlot_frame e u
  rw [h]
  cases p <;> first | rfl | cases hp

theorem freeze_same (p : Part) : ActsKeep p freeze := by
  intro e u
  obtain ⟨_, _, h⟩ := freeze_frame e u
  rw [h]
  cases p <;> rfl

theorem resetStats_same {p : Part} (hp : (actingParts .resetStats).contains p = false) : ActsKeep p resetStats := by
  intro e u
  obtain ⟨_, _, h⟩ := resetStats_frame e u
  rw [h]
  cases p <;> first | rfl | cases hp

theorem startCommand_same {p : Part} (hp : (actingParts .startCommand).contains p = false) : ActsKeep p startCommand := by
  intro e u
  obtain ⟨_, _, _, _, h⟩ := startCommand_frame e u
  obtain ⟨_, hexd⟩ := resetDetectors_frame u.exd
  rw [h, hexd]
  cases p <;> first | rfl | cases hp

theorem same_if_locked {p : Part} {s u : State} (h : p.Same s u) : p.Same s (if s.lineLock then u else s) := by
  split
  · exact h
  · exact .refl p s

theorem takeFrame_same {p : Part} (hp : (actingParts .frameTake).contains p = false) (s : State) : p.Same s s.takeFrame := by
  obtain ⟨_, _, _, h⟩ := takeFrame_frame s
  rw [h]
  cases p <;> first | rfl | cases hp

theorem expireZero_same {p : Part} (hp : (actingParts .zeroTimeout).contains p = false) (s : State) : p.Same s s.expireZero := by
  obtain ⟨_, _, _, h⟩ := expireZero_frame s
  rw [h]
  cases p <;> first | rfl | cases hp

theorem placeZero_same {p : Part} (hp : (actingParts .zeroResponsePlaced).contains p = false) (s : State) : p.Same s s.placeZero := by
  obtain ⟨_, _, h⟩ := placeZero_frame s
  rw [h]
  cases p <;> first | rfl | cases hp

theorem takeReverseRequest_same {p : Part} (hp : (actingParts .reverseLimitRequest).contains p = false) (s : State) : p.Same s s.takeReverseRequest := by
  obtain ⟨_, _, _, _, _, _, _, _, h⟩ := takeReverseRequest_frame s
  rw [h]
  cases p <;> first | rfl | cases hp

theorem markHandoff_same {p : Part} (hp : (actingParts .markHandoff).contains p = false) (s : State) : p.Same s s.markHandoff := by
  obtain ⟨_, _, _, _, h⟩ := markHandoff_frame s
  rw [h]
  cases p <;> first | rfl | cases hp

theorem locSample_same {p : Part} (hp : (actingParts .locSample).contains p = false) (s : State) : p.Same s s.locSample := by
  obtain ⟨_, _, _, h⟩ := locSample_frame s
  rw [h]
  cases p <;> first | rfl | cases hp

theorem locGap_same {p : Part} (hp : (actingParts .locGapNotice).contains p = false) (s : State) : p.Same s s.locGap := by
  obtain ⟨_, _, h⟩ := locGap_frame s
  rw [h]
  cases p <;> first | rfl | cases hp

theorem sampleEvent_same {p : Part} (hp : (actingParts .sampleEvent).contains p = false) (s : State) : p.Same s s.sampleEvent := by
  obtain ⟨_, _, _, _, h⟩ := sampleEvent_frame s
  rw [h]
  cases p <;> first | rfl | cases hp

theorem gapEvent_same {p : Part} (hp : (actingParts .gapEvent).contains p = false) (s : State) : p.Same s s.gapEvent := by
  obtain ⟨_, _, _, _, h⟩ := gapEvent_frame s
  rw [h]
  cases p <;> first | rfl | cases hp

theorem rowEvent_same {p : Part} (hp : (actingParts .rowEvent).contains p = false) (s : State) : p.Same s s.rowEvent := by
  obtain ⟨_, _, _, _, h⟩ := rowEvent_frame s
  rw [h]
  cases p <;> first | rfl | cases hp

theorem exdGap_same {p : Part} (hp : (actingParts .exdGapNotice).contains p = false) (s : State) : p.Same s s.exdGap := by
  obtain ⟨_, _, _, h⟩ := exdGap_frame s
  rw [h]
  cases p <;> first | rfl | cases hp

theorem stuRow_same {p : Part} (hp : (actingParts .stuRowEvent).contains p = false) (s : State) : p.Same s s.stuRow := by
  obtain ⟨_, _, _, _, _, _, _, h⟩ := stuRow_frame s
  rw [h]
  cases p <;> first | rfl | cases hp

theorem stuGap_same {p : Part} (hp : (actingParts .stuGapNotice).contains p = false) (s : State) : p.Same s s.stuGap := by
  obtain ⟨_, _, h⟩ := stuGap_frame s
  rw [h]
  cases p <;> first | rfl | cases hp

theorem ltxRow_same {p : Part} (hp : (actingParts .ltxRow).contains p = false) (s : State) : p.Same s s.ltxRow := by
  obtain ⟨_, _, _, _, _, h⟩ := ltxRow_frame s
  rw [h]
  cases p <;> first | rfl | cases hp

theorem ltxGap_same {p : Part} (hp : (actingParts .ltxGapNotice).contains p = false) (s : State) : p.Same s s.ltxGap := by
  obtain ⟨_, _, _, _, h⟩ := ltxGap_frame s
  rw [h]
  cases p <;> first | rfl | cases hp

theorem arbiterChoice_same {p : Part} (hp : (actingParts .arbiterChoice).contains p = false) (s : State) : p.Same s s.arbiterChoice := by
  obtain ⟨_, _, _, _, _, _, _, _, _, h⟩ := arbiterChoice_frame s
  rw [h]
  cases p <;> first | rfl | cases hp

theorem frameEvent_same {p : Part} (hp : (actingParts .frameEvent).contains p = false) (s : State) :
    p.Same s s.frameEvent := by
  unfold State.frameEvent
  split
  · exact .refl p s
  · cases p <;> first | rfl | cases hp

theorem transmissionEnd_same {p : Part} (hp : (actingParts .transmissionEnd).contains p = false) (s : State) :
    p.Same s s.transmissionEnd := by
  cases p <;> first | exact (transmissionEnd_frame s).1 | cases hp

/-- A command keeps every part of the state that it cannot write. -/
theorem exec_untouched {c : Instr} {s t : State} (h : exec c s = .next t) {p : Part} (hp : writes c p = false) :
    p.Same s t := by
  obtain ⟨hact, hans⟩ : (actingParts c).contains p = false ∧ (isHostCommand c = true → Part.answering.contains p = false) := by
    simpa [writes] using hp
  cases c with
  | dataOctet b =>
    obtain rfl := Host.Outcome.next.inj h
    exact same_if_locked (arrivalFrame_same hact (arriveOctet_frame s b))
  | idle =>
    obtain rfl := Host.Outcome.next.inj h
    exact same_if_locked (arrivalFrame_same hact (arriveIdle_frame s))
  | start =>
    obtain rfl := Host.Outcome.next.inj h
    exact same_if_locked (arrivalFrame_same hact (arriveStart_frame s))
  | endFrame =>
    obtain rfl := Host.Outcome.next.inj h
    exact same_if_locked (arriveEnd_same hact s)
  | abort =>
    obtain rfl := Host.Outcome.next.inj h
    exact same_if_locked (arrivalFrame_same hact (arriveAbort_frame s))
  | lossOfLock =>
    obtain rfl := Host.Outcome.next.inj h
    exact arrivalFrame_same hact (loseLock_frame s)
  | lockAcquired =>
    obtain rfl := Host.Outcome.next.inj h
    cases p <;> rfl
  | hold =>
    obtain rfl := Host.Outcome.next.inj h
    cases p <;> rfl
  | go =>
    obtain rfl := Host.Outcome.next.inj h
    cases p <;> rfl
  | powerOnReset straps =>
    obtain rfl := Host.Outcome.next.inj h
    cases p <;> first | rfl | cases hact
  | commandDiscarded =>
    obtain rfl := Host.Outcome.next.inj h
    exact headCommand_same (fun e => (dropCommand_same (hans rfl) s).trans (countDiscarded_same (hans rfl) s.dropCommand))
  | unknownCommand =>
    obtain rfl := Host.Outcome.next.inj h
    exact headCommand_same (fun e => (dropCommand_same (hans rfl) s).trans (answer_same (hans rfl) _ e _))
  | zero =>
    obtain rfl := Host.Outcome.next.inj h
    exact headCommand_same (fun e => (dropCommand_same (hans rfl) s).trans (runZero_same (hans rfl) (by rintro rfl; cases hact) _ e))
  | identify =>
    obtain rfl := Host.Outcome.next.inj h
    exact runCommand_same (hans rfl) (fun e u => by cases p <;> rfl) s _ _
  | resetWarm =>
    obtain rfl := Host.Outcome.next.inj h
    exact runCommand_same (hans rfl) (fun e u => by cases p <;> rfl) s _ _
  | resetCold =>
    obtain rfl := Host.Outcome.next.inj h
    exact runCommand_same (hans rfl) (fun e u => by cases p <;> rfl) s _ _
  | readConfig =>
    obtain rfl := Host.Outcome.next.inj h
    exact runCommand_same (hans rfl) (fun e u => by cases p <;> rfl) s _ _
  | thaw =>
    obtain rfl := Host.Outcome.next.inj h
    exact runCommand_same (hans rfl) (fun e u => by cases p <;> rfl) s _ _
  | clearMarks =>
    obtain rfl := Host.Outcome.next.inj h
    exact runCommand_same (hans rfl) (fun e u => by cases p <;> first | rfl | cases hact) s _ _
  | clearSections =>
    obtain rfl := Host.Outcome.next.inj h
    exact runCommand_same (hans rfl) (fun e u => by cases p <;> first | rfl | cases hact) s _ _
  | readChannel =>
    obtain rfl := Host.Outcome.next.inj h
    exact runCommand_same (hans rfl) (fun e u => .of_eq (readChannel_frame e u)) s _ _
  | readParameter =>
    obtain rfl := Host.Outcome.next.inj h
    exact runCommand_same (hans rfl) (fun e u => .of_eq (readParameter_frame e u)) s _ _
  | readMeasure =>
    obtain rfl := Host.Outcome.next.inj h
    exact runCommand_same (hans rfl) (fun e u => .of_eq (readMeasure_frame e u)) s _ _
  | readLimits =>
    obtain rfl := Host.Outcome.next.inj h
    exact runCommand_same (hans rfl) (fun e u => .of_eq (readLimits_frame e u)) s _ _
  | readMark =>
    obtain rfl := Host.Outcome.next.inj h
    exact runCommand_same (hans rfl) (fun e u => .of_eq (readMark_frame e u)) s _ _
  | readSection =>
    obtain rfl := Host.Outcome.next.inj h
    exact runCommand_same (hans rfl) (fun e u => .of_eq (readSection_frame e u)) s _ _
  | readSlot =>
    obtain rfl := Host.Outcome.next.inj h
    exact runCommand_same (hans rfl) (fun e u => .of_eq (readSlot_frame e u)) s _ _
  | readStatus =>
    obtain rfl := Host.Outcome.next.inj h
    exact runCommand_same (hans rfl) (readStatus_same hact) s _ _
  | stop =>
    obtain rfl := Host.Outcome.next.inj h
    exact runCommand_same (hans rfl) (stop_same hact) s _ _
  | suspend =>
    obtain rfl := Host.Outcome.next.inj h
    exact runCommand_same (hans rfl) (suspend_same hact) s _ _
  | resume =>
    obtain rfl := Host.Outcome.next.inj h
    exact runCommand_same (hans rfl) (resume_same hact) s _ _
  | setPosition =>
    obtain rfl := Host.Outcome.next.inj h
    exact runCommand_same (hans rfl) (setPosition_same hact) s _ _
  | setConfig =>
    obtain rfl := Host.Outcome.next.inj h
    exact runCommand_same (hans rfl) (setConfig_same hact) s _ _
  | setStream =>
    obtain rfl := Host.Outcome.next.inj h
    exact runCommand_same (hans rfl) (setStream_same hact) s _ _
  | writeChannel =>
    obtain rfl := Host.Outcome.next.inj h
    exact runCommand_same (hans rfl) (writeChannel_same hact) s _ _
  | writeParameter =>
    obtain rfl := Host.Outcome.next.inj h
    exact runCommand_same (hans rfl) (writeParameter_same hact) s _ _
  | writeMeasure =>
    obtain rfl := Host.Outcome.next.inj h
    exact runCommand_same (hans rfl) (writeMeasure_same hact) s _ _
  | rebase =>
    obtain rfl := Host.Outcome.next.inj h
    exact runCommand_same (hans rfl) (rebase_same hact) s _ _
  | writeLimits =>
    obtain rfl := Host.Outcome.next.inj h
    exact runCommand_same (hans rfl) (writeLimits_same hact) s _ _
  | writeMark =>
    obtain rfl := Host.Outcome.next.inj h
    exact runCommand_same (hans rfl) (writeMark_same hact) s _ _
  | deleteMark =>
    obtain rfl := Host.Outcome.next.inj h
    exact runCommand_same (hans rfl) (deleteMark_same hact) s _ _
  | appendSection =>
    obtain rfl := Host.Outcome.next.inj h
    exact runCommand_same (hans rfl) (appendSection_same hact) s _ _
  | writeSlot =>
    obtain rfl := Host.Outcome.next.inj h
    exact runCommand_same (hans rfl) (writeSlot_same hact) s _ _
  | freeze =>
    obtain rfl := Host.Outcome.next.inj h
    exact runCommand_same (hans rfl) (freeze_same p) s _ _
  | resetStats =>
    obtain rfl := Host.Outcome.next.inj h
    exact runCommand_same (hans rfl) (resetStats_same hact) s _ _
  | startCommand =>
    obtain rfl := Host.Outcome.next.inj h
    have hz : p ≠ .zero := by rintro rfl; cases hact
    have hr : p ≠ .responses := by rintro rfl; cases hans rfl
    exact (runCommand_same (hans rfl) (startCommand_same hact) s _ _).trans (placeAborted_same hz hr _ s)
  | frameEvent =>
    obtain rfl := Host.Outcome.next.inj h
    exact frameEvent_same hact s
  | silenceExpiry =>
    obtain rfl := Host.Outcome.next.inj h
    cases p <;> first | rfl | cases hact
  | transmissionEnd =>
    obtain rfl := Host.Outcome.next.inj h
    exact transmissionEnd_same hact s
  | frameTake =>
    obtain rfl := Host.Outcome.next.inj h
    exact takeFrame_same hact s
  | zeroTimeout =>
    obtain rfl := Host.Outcome.next.inj h
    exact expireZero_same hact s
  | zeroResponsePlaced =>
    obtain rfl := Host.Outcome.next.inj h
    exact placeZero_same hact s
  | reverseLimitRequest =>
    obtain rfl := Host.Outcome.next.inj h
    exact takeReverseRequest_same hact s
  | markHandoff =>
    obtain rfl := Host.Outcome.next.inj h
    exact markHandoff_same hact s
  | locSample =>
    obtain rfl := Host.Outcome.next.inj h
    exact locSample_same hact s
  | locGapNotice =>
    obtain rfl := Host.Outcome.next.inj h
    exact locGap_same hact s
  | sampleEvent =>
    obtain rfl := Host.Outcome.next.inj h
    exact sampleEvent_same hact s
  | gapEvent =>
    obtain rfl := Host.Outcome.next.inj h
    exact gapEvent_same hact s
  | rowEvent =>
    obtain rfl := Host.Outcome.next.inj h
    exact rowEvent_same hact s
  | exdGapNotice =>
    obtain rfl := Host.Outcome.next.inj h
    exact exdGap_same hact s
  | stuRowEvent =>
    obtain rfl := Host.Outcome.next.inj h
    exact stuRow_same hact s
  | stuGapNotice =>
    obtain rfl := Host.Outcome.next.inj h
    exact stuGap_same hact s
  | ltxRow =>
    obtain rfl := Host.Outcome.next.inj h
    exact ltxRow_same hact s
  | ltxGapNotice =>
    obtain rfl := Host.Outcome.next.inj h
    exact ltxGap_same hact s
  | arbiterChoice =>
    obtain rfl := Host.Outcome.next.inj h
    exact arbiterChoice_same hact s

end Sys2Proof.Machine


/-! SUPPORT. How a property of the state is carried through a step, what the execution of a host command and the end of a
transmission can do, and how the run state and the ZERO record move (R23, R25 to R27, R36, R53, R187). -/

namespace Sys2Proof.Machine

/-! ### Steps -/

theorem exec_answers (c : Instr) (s : State) : ∃ t, exec c s = .next t := by
  cases c <;> exact ⟨_, rfl⟩

/-- A property that does not read the queue of waiting commands and that every command keeps is kept by every step. -/
theorem step_keeps {P : State → Prop} (hqueue : ∀ s rest, P s → P { s with pending := rest })
    (hexec : ∀ c s t, P s → exec c s = .next t → P t) {s t : State} (hs : P s) (h : step s = .next t) : P t := by
  rcases step_cases h with ⟨_, rfl⟩ | ⟨c, rest, _, hc⟩
  · exact hs
  · exact hexec c _ t (hqueue s rest hs) hc

/-! ### The execution of a host command (R25 to R27) -/

/-- R25 to R27: a command that is not carried out at its owning block writes no more than its answering can; one that is
carried out is accepted in the run state, and is then answered. -/
theorem runCommand_outcome (s : State) (row : Instr) (allowed : RunState → Bool)
    (act : CommandEntry → State → State × Reply) :
    (∀ p, Part.answering.contains p = false → p.Same s (s.runCommand row allowed act)) ∨
      ∃ e, s.headCommand row = some e ∧ allowed s.cmu.runState = true ∧
        s.runCommand row allowed act = (act e s.dropCommand).1.answer e (act e s.dropCommand).2 := by
  rcases runCommand_cases s row allowed act with ⟨_, h⟩ | ⟨e, he, h⟩
  · exact .inl fun p _ => .of_eq h
  · unfold State.judgeCommand at h
    split at h
    · exact .inl fun p hp => h ▸ (dropCommand_same hp s).trans (answer_same hp _ _ _)
    · split at h
      · next ha => exact .inr ⟨e, he, ha, h⟩
      · exact .inl fun p hp => h ▸ (dropCommand_same hp s).trans (answer_same hp _ _ _)

/-- R26, case 5: outside STOPPED a command of STOPPED is not carried out. -/
theorem runCommand_same_of_not_stopped {s : State} (h : s.cmu.runState ≠ .stopped) (row : Instr)
    (act : CommandEntry → State → State × Reply) {p : Part} (hp : Part.answering.contains p = false) :
    p.Same s (s.runCommand row onlyStopped act) := by
  rcases runCommand_outcome s row onlyStopped act with hsame | ⟨_, _, ha, _⟩
  · exact hsame p hp
  · exact absurd (beq_iff_eq.mp ha) h

/-! ### The end of a transmission (R36, R187) -/

/-- R187: what the end of a transmission can write when it answers no RESET. -/
def State.EndFrame (s t : State) : Prop :=
  ∃ contexts free lane forward buffers outbound, t = { s with
    ext := { s.ext with contexts := contexts, free := free }
    ltx := { s.ltx with lane := lane, forward := forward, buffers := buffers }
    outbound := outbound }

/-- R36, R187: the end of a transmission completes its frame, or brings a commanded reset into effect. -/
theorem transmissionEnd_cases (s : State) :
    (s.EndFrame s.transmissionEnd ∧ ¬∃ r, s.ltx.lane = .own (.response r) ∧ r.resets ≠ none) ∨
      ∃ r k, s.ltx.lane = .own (.response r) ∧ r.resets = some k ∧
        s.transmissionEnd = s.endFrameOnLane.commandedReset k := by
  unfold State.transmissionEnd
  cases hl : s.ltx.lane with
  | idle => exact .inl ⟨⟨_, _, _, _, _, _, rfl⟩, by simp⟩
  | cutThrough => exact .inl ⟨⟨_, _, _, _, _, _, rfl⟩, by simp⟩
  | forwarded => exact .inl ⟨⟨_, _, _, _, _, _, rfl⟩, by simp⟩
  | own f =>
    cases f with
    | alert => exact .inl ⟨⟨_, _, _, _, _, _, rfl⟩, by simp⟩
    | location => exact .inl ⟨⟨_, _, _, _, _, _, rfl⟩, by simp⟩
    | segment => exact .inl ⟨⟨_, _, _, _, _, _, rfl⟩, by simp⟩
    | exception c => exact .inl ⟨⟨_, _, _, _, _, _, rfl⟩, by simp⟩
    | rows i => exact .inl ⟨⟨_, _, _, _, _, _, rfl⟩, by simp⟩
    | response r =>
      cases hr : r.resets with
      | none =>
        refine .inl ⟨⟨s.ext.contexts, s.ext.free, .idle, s.ltx.forward, s.ltx.buffers, s.outbound ++ [.endFrame], ?_⟩,
          by simp [hr]⟩
        simp only [State.completeOwn, hr]
        rfl
      | some k =>
        refine .inr ⟨r, k, rfl, hr, ?_⟩
        simp only [State.completeOwn, hr]

theorem exec_transmissionEnd (s : State) : exec .transmissionEnd s = .next s.transmissionEnd := rfl

/-! ### The run state and the run number (R23) -/

/-- R23: the run number counts an entry into MEASURING and nothing else. -/
def State.RunCounted (s t : State) : Prop :=
  t.cmu.runNumber =
    if s.cmu.runState ≠ .measuring ∧ t.cmu.runState = .measuring then s.cmu.runNumber + 1 else s.cmu.runNumber

theorem runCounted_of_same {s t : State} (hrun : t.cmu.runState = s.cmu.runState)
    (hnumber : t.cmu.runNumber = s.cmu.runNumber) : s.RunCounted t := by
  rw [State.RunCounted, hrun, if_neg fun ⟨hne, he⟩ => hne he, hnumber]

/-- R23: a run state other than MEASURING is entered with the run number kept. -/
theorem runCounted_of_left {s t : State} (hrun : t.cmu.runState ≠ .measuring)
    (hnumber : t.cmu.runNumber = s.cmu.runNumber) : s.RunCounted t := by
  rw [State.RunCounted, if_neg fun ⟨_, he⟩ => hrun he, hnumber]

theorem runCounted_of_entered {s t : State} (hs : s.cmu.runState ≠ .measuring) (hrun : t.cmu.runState = .measuring)
    (hnumber : t.cmu.runNumber = s.cmu.runNumber + 1) : s.RunCounted t := by
  rw [State.RunCounted, if_pos ⟨hs, hrun⟩, hnumber]

/-- R23: a host command counts as its act does, the taking and the answer touching neither run state nor run number. -/
theorem runCounted_runCommand {s : State} (row : Instr) (allowed : RunState → Bool)
    (act : CommandEntry → State → State × Reply)
    (hact : ∀ e, allowed s.cmu.runState = true → s.dropCommand.RunCounted (act e s.dropCommand).1) :
    s.RunCounted (s.runCommand row allowed act) := by
  rcases runCommand_outcome s row allowed act with hsame | ⟨e, _, ha, h⟩
  · exact runCounted_of_same (hsame .runState rfl) (hsame .runNumber rfl)
  · have hrun : ((act e s.dropCommand).1.answer e (act e s.dropCommand).2).cmu.runState = _ :=
      answer_same (p := .runState) rfl _ _ _
    have hnumber : ((act e s.dropCommand).1.answer e (act e s.dropCommand).2).cmu.runNumber = _ :=
      answer_same (p := .runNumber) rfl _ _ _
    rw [h, State.RunCounted, hrun, hnumber]
    exact hact e ha

theorem startCommand_runCounted {s : State} (e : CommandEntry) (h : onlyStopped s.cmu.runState = true) :
    s.RunCounted (startCommand e s).1 := by
  obtain ⟨_, _, _, _, hstart⟩ := startCommand_frame e s
  rw [hstart]
  exact runCounted_of_entered (by simp [beq_iff_eq.mp h]) rfl rfl

theorem stop_runCounted (e : CommandEntry) (s : State) : s.RunCounted (stop e s).1 := by
  unfold stop
  split
  · exact runCounted_of_same rfl rfl
  · obtain ⟨_, _, _, _, _, _, h⟩ := stopNotice_frame (s.withCmu (s.cmu.setRunState .stopped))
    rw [h]
    exact runCounted_of_left (s := s) (show RunState.stopped ≠ .measuring by simp) rfl

theorem suspendRun_runCounted (s : State) (cause : SuspendCause) : s.RunCounted (s.suspendRun cause) := by
  obtain ⟨_, _, h⟩ := suspendRun_frame s cause
  rw [h]
  exact runCounted_of_left (show RunState.suspended cause ≠ .measuring by simp) rfl

theorem resume_runCounted {s : State} (e : CommandEntry) (h : onlySuspended s.cmu.runState = true) :
    s.RunCounted (resume e s).1 := by
  obtain ⟨_, _, _, hresume⟩ := resume_frame e s
  have hs : s.cmu.runState ≠ .measuring := by
    intro hm
    simp [hm, onlySuspended] at h
  rw [hresume]
  exact runCounted_of_entered hs rfl rfl

theorem takeReverseRequest_runCounted (s : State) : s.RunCounted s.takeReverseRequest := by
  unfold State.takeReverseRequest
  split
  · exact runCounted_of_same rfl rfl
  · dsimp only
    split
    · obtain ⟨_, _, hemit⟩ := emitLocation_frame
        ((s.withLinks { s.links with reverseRequest := none }).suspendRun .reverse) .reverseSuspend
        ((s.withLinks { s.links with reverseRequest := none }).suspendRun .reverse).odo.measured
      rw [State.reverseSuspendRecord, hemit]
      exact suspendRun_runCounted (s.withLinks { s.links with reverseRequest := none }) .reverse
    · exact runCounted_of_same rfl rfl

/-- R23: every command but a reset counts the entries into MEASURING. -/
theorem exec_runCounted {c : Instr} {s t : State} (h : exec c s = .next t) (hpower : ∀ straps, c ≠ .powerOnReset straps)
    (hreset : ¬(c = .transmissionEnd ∧ ∃ r, s.ltx.lane = .own (.response r) ∧ r.resets ≠ none)) : s.RunCounted t := by
  cases c with
  | powerOnReset straps => exact absurd rfl (hpower straps)
  | startCommand =>
    obtain rfl := Host.Outcome.next.inj h
    have hplace := placeAborted_same (p := .runState) (by simp) (by simp)
      (s.runCommand .startCommand onlyStopped startCommand) s
    have hplace' := placeAborted_same (p := .runNumber) (by simp) (by simp)
      (s.runCommand .startCommand onlyStopped startCommand) s
    rw [State.RunCounted, hplace, hplace']
    exact runCounted_runCommand _ _ _ fun e ha => startCommand_runCounted e ha
  | stop =>
    obtain rfl := Host.Outcome.next.inj h
    exact runCounted_runCommand _ _ _ fun e _ => stop_runCounted e _
  | suspend =>
    obtain rfl := Host.Outcome.next.inj h
    exact runCounted_runCommand _ _ _ fun e _ => suspendRun_runCounted s.dropCommand .command
  | resume =>
    obtain rfl := Host.Outcome.next.inj h
    exact runCounted_runCommand _ _ _ fun e ha => resume_runCounted e ha
  | reverseLimitRequest =>
    obtain rfl := Host.Outcome.next.inj h
    exact takeReverseRequest_runCounted s
  | transmissionEnd =>
    obtain rfl := Host.Outcome.next.inj h
    rcases transmissionEnd_cases s with ⟨⟨_, _, _, _, _, _, hend⟩, _⟩ | ⟨r, k, hl, hr, _⟩
    · rw [hend]
      exact runCounted_of_same rfl rfl
    · exact absurd ⟨rfl, r, hl, by simp [hr]⟩ hreset
  | _ => exact runCounted_of_same (exec_untouched (p := .runState) h rfl) (exec_untouched (p := .runNumber) h rfl)

/-! ### When a ZERO collects (R26, R49, R53) -/

theorem collecting_iff (s : State) : s.collecting = true ↔ ∃ z, s.cal.zero = .collecting z := by
  unfold State.collecting
  split
  · next z hz => simp [hz]
  · next h => simpa using fun z hz => h z hz

theorem placeZero_of_not_reporting {s : State} (h : ∀ r, s.cal.zero ≠ .reporting r) : s.placeZero = s := by
  unfold State.placeZero
  split
  · next r hr => exact absurd hr (h r)
  · rfl

theorem not_collecting_placeZero {s : State} (h : ∀ z, s.cal.zero ≠ .collecting z) (z : ZeroCollection) :
    s.placeZero.cal.zero ≠ .collecting z := by
  unfold State.placeZero
  split
  · split
    · simp
    · exact h z
  · exact h z

theorem not_collecting_completeZero {s : State} (h : ∀ z, s.cal.zero ≠ .collecting z) : s.completeZero = s := by
  unfold State.completeZero
  split
  · next z hz => exact absurd hz (h z)
  · rfl

theorem expireZero_of_not_collecting {s : State} (h : ∀ z, s.cal.zero ≠ .collecting z) : s.expireZero = s := by
  unfold State.expireZero
  split
  · next z hz => exact absurd hz (h z)
  · rfl

/-- R50: without a ZERO in COLLECTING a frame take leaves the ZERO record and the channel table. -/
theorem cal_take_of_not_collecting {c : Cal} (h : ∀ z, c.zero ≠ .collecting z) (e : SensorEntry) :
    (c.take e).zero = c.zero := by
  unfold Cal.take
  dsimp only
  split
  · next z hz => exact absurd hz (h z)
  · rfl

theorem takeFrame_of_not_collecting {s : State} (h : ∀ z, s.cal.zero ≠ .collecting z) :
    s.takeFrame.cal.channels = s.cal.channels ∧ s.takeFrame.cal.zero = s.cal.zero := by
  unfold State.takeFrame
  split
  · exact ⟨rfl, rfl⟩
  · next e _ =>
    have htake := cal_take_of_not_collecting h e
    rw [not_collecting_completeZero fun z => by simpa [htake] using h z]
    exact ⟨rfl, htake⟩

theorem abortZero_not_collecting (c : Cal) (z : ZeroCollection) : c.abortZero.zero ≠ .collecting z := by
  unfold Cal.abortZero
  split
  · simp [ZeroCollection.report]
  · next h => exact h z

/-- R49: no command but ZERO begins a collection. -/
theorem not_collecting_of_exec {c : Instr} {s t : State} (h : exec c s = .next t) (hc : c ≠ .zero)
    (hs : ∀ z, s.cal.zero ≠ .collecting z) (z : ZeroCollection) : t.cal.zero ≠ .collecting z := by
  cases c with
  | zero => exact absurd rfl hc
  | powerOnReset straps =>
    obtain rfl := Host.Outcome.next.inj h
    exact nofun
  | startCommand =>
    obtain rfl := Host.Outcome.next.inj h
    have hrun : ∀ z, (s.runCommand .startCommand onlyStopped startCommand).cal.zero ≠ .collecting z :=
      runCommand_keeps (P := fun u : State => ∀ z, u.cal.zero ≠ .collecting z) hs id
        (fun e u _ z => abortZero_not_collecting u.cal z)
        (fun u e r hu z => (answer_same (p := .zero) rfl u e r).symm ▸ hu z)
    unfold State.placeAborted
    split
    · exact not_collecting_placeZero hrun z
    · exact hrun z
  | frameTake =>
    obtain rfl := Host.Outcome.next.inj h
    rw [(takeFrame_of_not_collecting hs).2]
    exact hs z
  | zeroTimeout =>
    obtain rfl := Host.Outcome.next.inj h
    rw [expireZero_of_not_collecting hs]
    exact hs z
  | zeroResponsePlaced =>
    obtain rfl := Host.Outcome.next.inj h
    exact not_collecting_placeZero hs z
  | transmissionEnd =>
    obtain rfl := Host.Outcome.next.inj h
    rcases transmissionEnd_cases s with ⟨⟨_, _, _, _, _, _, hend⟩, _⟩ | ⟨r, k, _, _, hend⟩
    · rw [hend]
      exact hs z
    · rw [hend]
      cases k <;> exact nofun
  | _ => exact (exec_untouched (p := .zero) h rfl).symm ▸ hs z

end Sys2Proof.Machine


/-! SUPPORT. The run state and the tables of a run across a step (R23, R26, R36, R48, R53). -/

namespace Sys2Proof.Machine

/-! ### A ZERO collects only in STOPPED (R26, R49, R53) -/

/-- The property of R26 and R53 that every step keeps. -/
def State.ZeroInStopped (s : State) : Prop :=
  (∃ z, s.cal.zero = .collecting z) → s.cmu.runState = .stopped

theorem zero_answer (s : State) (e : CommandEntry) (r : Reply) : (s.answer e r).cal.zero = s.cal.zero :=
  answer_same (p := .zero) rfl s e r

/-- R49: a ZERO collects after the command only if one did before, or in STOPPED. -/
theorem runZero_collecting {s : State} {e : CommandEntry} {z : ZeroCollection}
    (h : (s.runZero e).cal.zero = .collecting z) : s.cal.zero = .collecting z ∨ s.cmu.runState = .stopped := by
  unfold State.runZero at h
  split at h
  · exact .inl (zero_answer s e _ ▸ h)
  · split at h
    · next hrun => exact .inr (beq_iff_eq.mp hrun)
    · exact .inl (zero_answer s e _ ▸ h)

theorem execZero_collecting {s t : State} (h : exec .zero s = .next t) {z : ZeroCollection}
    (hz : t.cal.zero = .collecting z) : s.cal.zero = .collecting z ∨ s.cmu.runState = .stopped := by
  obtain rfl := Host.Outcome.next.inj h
  cases he : s.headCommand .zero with
  | none => exact .inl (by simpa only [he] using hz)
  | some e =>
    simp only [he] at hz
    exact runZero_collecting (s := s.dropCommand) hz

/-- R26: a host command whose act leaves STOPPED alone leaves it alone. -/
theorem runCommand_keeps_stopped {s : State} (hs : s.cmu.runState = .stopped) (row : Instr)
    (allowed : RunState → Bool) (act : CommandEntry → State → State × Reply)
    (hact : ∀ e u, u.cmu.runState = .stopped → allowed .stopped = true → (act e u).1.cmu.runState = .stopped) :
    (s.runCommand row allowed act).cmu.runState = .stopped := by
  rcases runCommand_outcome s row allowed act with hsame | ⟨e, _, ha, h⟩
  · exact Eq.trans (hsame .runState rfl) hs
  · have hanswer : ((act e s.dropCommand).1.answer e (act e s.dropCommand).2).cmu.runState = _ :=
      answer_same (p := .runState) rfl _ _ _
    rw [h, hanswer]
    exact hact e _ hs (hs ▸ ha)

/-- R53: a START that is carried out leaves no ZERO collecting, and one that is not leaves the run state alone. -/
theorem startCommand_zeroInStopped {s : State} (hs : s.ZeroInStopped) :
    ((s.runCommand .startCommand onlyStopped startCommand).placeAborted s).ZeroInStopped := by
  rintro ⟨z, hz⟩
  have hrun : ((s.runCommand .startCommand onlyStopped startCommand).placeAborted s).cmu.runState =
      (s.runCommand .startCommand onlyStopped startCommand).cmu.runState :=
    placeAborted_same (p := .runState) (by simp) (by simp) _ s
  rw [hrun]
  rcases runCommand_outcome s .startCommand onlyStopped startCommand with hsame | ⟨e, _, _, h⟩
  · rw [hsame .runState rfl]
    refine hs (Classical.not_forall_not.mp fun hnot => ?_)
    have hnone : ∀ z, (s.runCommand .startCommand onlyStopped startCommand).cal.zero ≠ .collecting z :=
      fun z => (hsame .zero rfl).symm ▸ hnot z
    unfold State.placeAborted at hz
    split at hz
    · exact not_collecting_placeZero hnone z hz
    · exact hnone z hz
  · have hnone : ∀ z, (s.runCommand .startCommand onlyStopped startCommand).cal.zero ≠ .collecting z := by
      intro z
      rw [h, zero_answer]
      exact abortZero_not_collecting _ z
    unfold State.placeAborted at hz
    split at hz
    · exact absurd hz (not_collecting_placeZero hnone z)
    · exact absurd hz (hnone z)

/-- R31: in STOPPED the reverse-limit request is void. -/
theorem takeReverseRequest_keeps_stopped {s : State} (hs : s.cmu.runState = .stopped) :
    s.takeReverseRequest.cmu.runState = .stopped := by
  unfold State.takeReverseRequest
  split
  · exact hs
  · next run _ =>
    rw [if_neg (by simp [State.keeps, State.measuring, hs])]
    exact hs

/-- R26, R53: every command keeps it that a ZERO collects only in STOPPED. -/
theorem exec_zeroInStopped {c : Instr} {s t : State} (h : exec c s = .next t) (hs : s.ZeroInStopped) :
    t.ZeroInStopped := by
  have hrun : c ≠ .zero → (∃ z, t.cal.zero = .collecting z) → s.cmu.runState = .stopped := fun hc ⟨z, hz⟩ =>
    hs (Classical.not_forall_not.mp fun hnot => not_collecting_of_exec h hc hnot z hz)
  cases c with
  | zero =>
    rintro ⟨z, hz⟩
    rw [exec_untouched (p := .runState) h rfl]
    exact (execZero_collecting h hz).elim (fun hc => hs ⟨z, hc⟩) id
  | powerOnReset straps =>
    obtain rfl := Host.Outcome.next.inj h
    exact fun _ => rfl
  | transmissionEnd =>
    obtain rfl := Host.Outcome.next.inj h
    rcases transmissionEnd_cases s with ⟨⟨_, _, _, _, _, _, hend⟩, _⟩ | ⟨r, k, _, _, hend⟩
    · rw [hend]
      exact hs
    · rw [hend]
      cases k <;> exact fun _ => rfl
  | startCommand =>
    obtain rfl := Host.Outcome.next.inj h
    exact startCommand_zeroInStopped hs
  | stop =>
    intro hz
    have hstop := hrun (by simp) hz
    obtain rfl := Host.Outcome.next.inj h
    exact runCommand_keeps_stopped hstop _ _ _ fun e u hu _ => by
      rw [stop, if_pos (by simp [hu])]
      exact hu
  | suspend =>
    intro hz
    have hstop := hrun (by simp) hz
    obtain rfl := Host.Outcome.next.inj h
    exact runCommand_keeps_stopped hstop _ _ _ fun _ _ _ hallowed => absurd hallowed (by decide)
  | resume =>
    intro hz
    have hstop := hrun (by simp) hz
    obtain rfl := Host.Outcome.next.inj h
    exact runCommand_keeps_stopped hstop _ _ _ fun _ _ _ hallowed => absurd hallowed (by decide)
  | reverseLimitRequest =>
    intro hz
    have hstop := hrun (by simp) hz
    obtain rfl := Host.Outcome.next.inj h
    exact takeReverseRequest_keeps_stopped hstop
  | _ =>
    intro hz
    rw [exec_untouched (p := .runState) h rfl]
    exact hrun (by simp) hz

/-! ### The tables of a run (R26, R34, R48, R104, R116, R176) -/

/-- The tables that are fixed while a run goes on. -/
def State.RunTablesSame (s t : State) : Prop :=
  t.cmu.config = s.cmu.config ∧ t.cal.channels = s.cal.channels ∧ t.mse.parameters = s.mse.parameters ∧
    t.mse.measures = s.mse.measures ∧ t.stu.slots = s.stu.slots

theorem runTablesSame_of_same {s t : State}
    (h : ∀ p ∈ [Part.config, .channels, .parameters, .measures, .slots], p.Same s t) : s.RunTablesSame t :=
  ⟨h .config (by simp), h .channels (by simp), h .parameters (by simp), h .measures (by simp), h .slots (by simp)⟩

/-- A command whose writes leave the tables alone. -/
theorem runTablesSame_of_untouched {c : Instr} {s t : State} (h : exec c s = .next t)
    (hw : ([Part.config, .channels, .parameters, .measures, .slots].all fun p => !writes c p) = true) :
    s.RunTablesSame t :=
  runTablesSame_of_same fun p hp => exec_untouched h (by simpa using List.all_eq_true.mp hw p hp)

/-- R26: outside STOPPED a command of STOPPED leaves the tables alone. -/
theorem runTablesSame_runCommand {s : State} (hs : s.cmu.runState ≠ .stopped) (row : Instr)
    (act : CommandEntry → State → State × Reply) : s.RunTablesSame (s.runCommand row onlyStopped act) :=
  runTablesSame_of_same fun p hp => runCommand_same_of_not_stopped hs row act (by
    fin_cases hp <;> rfl)

/-- R26, R53: outside STOPPED, with no ZERO collecting, no command but a cold reset changes the tables. -/
theorem exec_runTablesSame {c : Instr} {s t : State} (h : exec c s = .next t) (hs : s.cmu.runState ≠ .stopped)
    (hz : ∀ z, s.cal.zero ≠ .collecting z) (hpower : ∀ straps, c ≠ .powerOnReset straps)
    (hreset : ¬(c = .transmissionEnd ∧ ∃ r, s.ltx.lane = .own (.response r) ∧ r.resets = some .cold)) :
    s.RunTablesSame t := by
  cases c with
  | powerOnReset straps => exact absurd rfl (hpower straps)
  | setConfig | writeChannel | writeParameter | writeMeasure | writeSlot =>
    obtain rfl := Host.Outcome.next.inj h
    exact runTablesSame_runCommand hs _ _
  | frameTake =>
    have hchannels : t.cal.channels = s.cal.channels := by
      obtain rfl := Host.Outcome.next.inj h
      exact (takeFrame_of_not_collecting hz).1
    exact ⟨exec_untouched (p := .config) h rfl, hchannels, exec_untouched (p := .parameters) h rfl,
      exec_untouched (p := .measures) h rfl, exec_untouched (p := .slots) h rfl⟩
  | zeroTimeout =>
    obtain rfl := Host.Outcome.next.inj h
    rw [expireZero_of_not_collecting hz]
    exact ⟨rfl, rfl, rfl, rfl, rfl⟩
  | transmissionEnd =>
    obtain rfl := Host.Outcome.next.inj h
    rcases transmissionEnd_cases s with ⟨⟨_, _, _, _, _, _, hend⟩, _⟩ | ⟨r, k, hl, hr, hend⟩
    · rw [hend]
      exact ⟨rfl, rfl, rfl, rfl, rfl⟩
    · cases k with
      | cold => exact absurd ⟨rfl, r, hl, hr⟩ hreset
      | warm =>
        rw [hend]
        exact ⟨rfl, rfl, rfl, rfl, rfl⟩
  | _ => exact runTablesSame_of_untouched h rfl

end Sys2Proof.Machine

/-! The statements about steps, the run state and the tables of a run. -/

namespace Sys2Proof.Proofs

open Sys2Proof Sys2Proof.Machine

/-- Settles O1, by the two cases of `step`. -/
theorem frontCommandRunsAndAnEmptyQueueIdles : Obligations.FrontCommandRunsAndAnEmptyQueueIdles :=
  ⟨fun c rest s h => by rw [step, h], fun s h => by rw [step, h]⟩

/-- Settles O2: no command can write the queue of waiting commands. -/
theorem everyCommandAnswersAndKeepsTheQueue : Obligations.EveryCommandAnswersAndKeepsTheQueue := fun c s => by
  obtain ⟨t, ht⟩ := exec_answers c s
  exact ⟨t, ht, exec_untouched (p := .pending) ht (by cases c <;> rfl)⟩

/-- Settles O22, command by command of those that move the run state. -/
theorem runNumberCountsTheEntriesIntoMeasuring : Obligations.RunNumberCountsTheEntriesIntoMeasuring :=
  fun _ _ _ h hpower hreset => exec_runCounted h hpower hreset

/-- Settles O23: only ZERO begins a collection, in STOPPED, START ends it, and the commands that write a table of the run are
accepted in STOPPED only. -/
theorem tablesOfARunAreFixedOutsideStopped : Obligations.TablesOfARunAreFixedOutsideStopped :=
  ⟨fun _ _ hs h => step_keeps (P := State.ZeroInStopped) (fun _ _ hs => hs) (fun _ _ _ hs h => exec_zeroInStopped h hs) hs h,
    fun _ _ _ h hs hz hpower hreset => exec_runTablesSame h hs hz hpower hreset⟩

end Sys2Proof.Proofs


/-! SUPPORT. How an invariant that reads only some parts of the state is carried past what does not write them, and the law of
the settings and of the limit sets across a step (R33, R35, R116, R117, R129, R130). -/

namespace Sys2Proof.Machine

/-! ### Properties that read only some parts of the state -/

/-- A property that reads no more than these parts. -/
def ReadsOnly (parts : List Part) (P : State → Prop) : Prop := ∀ s t, (∀ p ∈ parts, p.Same s t) → P s → P t

section

variable {parts : List Part} {P : State → Prop} (hP : ReadsOnly parts P)

include hP

/-- A command that writes none of the parts keeps the property. -/
theorem ReadsOnly.exec_untouched {c : Instr} {s t : State} (h : exec c s = .next t)
    (hw : (parts.all fun p => !writes c p) = true) (hs : P s) : P t :=
  hP s t (fun p hp => Machine.exec_untouched h (by simpa using List.all_eq_true.mp hw p hp)) hs

/-- R25 to R27: a host command keeps the property when its act does, taking and answering leaving the parts alone. -/
theorem ReadsOnly.runCommand (hparts : (parts.all fun p => !Part.answering.contains p) = true) {row : Instr}
    {allowed : RunState → Bool} {act : CommandEntry → State → State × Reply} (hact : ∀ e u, P u → P (act e u).1)
    {s : State} (hs : P s) : P (s.runCommand row allowed act) := by
  have hnot : ∀ p ∈ parts, Part.answering.contains p = false := fun p hp => by
    simpa using List.all_eq_true.mp hparts p hp
  exact runCommand_keeps hs (hP _ _ fun p hp => dropCommand_same (hnot p hp) s) hact
    fun u e r => hP _ _ fun p hp => answer_same (hnot p hp) u e r

/-- A property that every command keeps is kept by every step. -/
theorem ReadsOnly.step (hparts : parts.contains .pending = false)
    (hexec : ∀ c s t, P s → exec c s = .next t → P t) {s t : State} (hs : P s) (h : step s = .next t) : P t := by
  refine step_keeps (fun s rest => hP _ _ fun p hp => ?_) hexec hs h
  cases p with
  | pending => simp [hp] at hparts
  | _ => rfl

/-- R36, R187: the end of a transmission keeps a property of parts other than LTX and EXT that both resets establish. -/
theorem ReadsOnly.transmissionEnd
    (hparts : (parts.all fun p => !decide (p ∈ [Part.ext, .lane, .forward, .buffers, .outbound])) = true)
    (hreset : ∀ s k, P s → P (s.commandedReset k)) {s : State} (hs : P s) : P s.transmissionEnd := by
  rcases transmissionEnd_cases s with ⟨⟨_, _, _, _, _, _, hend⟩, _⟩ | ⟨r, k, _, _, hend⟩
  · rw [hend]
    refine hP _ _ (fun p hp => ?_) hs
    have := List.all_eq_true.mp hparts p hp
    cases p with
    | ext | lane | forward | buffers | outbound => simp at this
    | _ => rfl
  · rw [hend]
    refine hreset _ k (hP _ _ (fun p hp => ?_) hs)
    have := List.all_eq_true.mp hparts p hp
    cases p with
    | ext | lane | forward | buffers | outbound => simp at this
    | _ => rfl

end

/-! ### The settings (R33, R35, R116, R117) -/

theorem ConfigRecord.inRange_iff (c : ConfigRecord) : c.inRange = true ↔ c.InRange := by
  simp only [ConfigRecord.inRange, Bool.and_eq_true, decide_eq_true_eq]
  constructor
  · rintro ⟨⟨⟨⟨⟨⟨⟨⟨⟨⟨⟨h1, h2⟩, h3⟩, h4⟩, h5⟩, h6⟩, h7⟩, h8⟩, h9⟩, h10⟩, h11⟩, h12⟩
    exact ⟨h1, h2, h3, h4, h5, h6, h7, by omega, h9, h10, h11, h12⟩
  · rintro ⟨h1, h2, h3, h4, h5, h6, h7, h8, h9, h10, h11, h12⟩
    exact ⟨⟨⟨⟨⟨⟨⟨⟨⟨⟨⟨h1, h2⟩, h3⟩, h4⟩, h5⟩, h6⟩, h7⟩, by omega⟩, h9⟩, h10⟩, h11⟩, h12⟩

theorem inRange_of_configRecord? {a : List Octet} {c : ConfigRecord} (h : configRecord? a = some c) : c.InRange := by
  unfold configRecord? at h
  split at h
  · dsimp only at h
    split at h
    · next hr => exact Option.some.inj h ▸ (ConfigRecord.inRange_iff _).mp hr
    · exact absurd h (by simp)
  · exact absurd h (by simp)

/-- R33: the cross-checks of a record against the measure table. -/
theorem ConfigRecord.crossChecks_iff (c : ConfigRecord) (measures : Vector MeasureEntry 16) :
    c.crossChecks measures = true ↔ (∀ m : Fin 16, (measures[m]).halfLength ≤ c.alignDelay) ∧ c.pitchMinMm ≤ c.pitchMaxMm := by
  have hall : (∀ x ∈ measures.toList, x.halfLength ≤ c.alignDelay) ↔ ∀ m : Fin 16, (measures[m]).halfLength ≤ c.alignDelay := by
    constructor
    · exact fun h m => h _ (by simp)
    · intro h x hx
      obtain ⟨i, hi, rfl⟩ := List.getElem_of_mem hx
      exact h ⟨i, by simpa using hi⟩
  simp only [ConfigRecord.crossChecks, Bool.and_eq_true, List.all_eq_true, decide_eq_true_eq, hall]

/-- R33, R116: a lawful measure entry stays lawful under an alignment delay that its half-length fits. -/
theorem MeasureEntry.Lawful.of_halfLength {e : MeasureEntry} {d d' : Nat} (h : e.Lawful d) (hd : e.halfLength ≤ d') :
    e.Lawful d' := by
  cases e with
  | chord p l =>
    obtain ⟨h1, h2, h3, _⟩ := h
    exact ⟨h1, h2, h3, hd⟩
  | twist p b =>
    obtain ⟨h1, h2, h3, _⟩ := h
    exact ⟨h1, h2, h3, hd⟩
  | _ => exact h

theorem lengthAllowed_iff (l d : Nat) : lengthAllowed l d = true ↔ l % 2 = 0 ∧ 2 ≤ l ∧ l ≤ 120 ∧ l / 2 ≤ d := by
  simp only [lengthAllowed, Bool.and_eq_true, beq_iff_eq, decide_eq_true_eq, and_assoc]

theorem baselineAllowed_iff (beta g : Nat) : baselineAllowed beta g = true ↔ 4 ≤ beta ∧ beta ≤ 15 ∧ g ≤ 4 := by
  simp only [baselineAllowed, Bool.and_eq_true, decide_eq_true_eq, and_assoc]

/-- R117: the entry of a WRITE MEASURE that passes its checks is lawful. -/
theorem lawful_of_measureEntry? {a : List Octet} {d : Nat} {m : MeasureEntry} (h : measureEntry? a d = some m) :
    m.Lawful d := by
  unfold measureEntry? at h
  split at h
  · exact Option.some.inj h ▸ trivial
  · split at h
    · dsimp only at h
      split at h
      · exact Option.some.inj h ▸ trivial
      · obtain ⟨hl, ⟨⟩⟩ := Option.ite_none_right_eq_some.mp h
        exact (lengthAllowed_iff _ _).mp hl
      · obtain ⟨hl, ⟨⟩⟩ := Option.ite_none_right_eq_some.mp h
        exact (lengthAllowed_iff _ _).mp hl
      · obtain ⟨hl, ⟨⟩⟩ := Option.ite_none_right_eq_some.mp h
        exact (baselineAllowed_iff _ _).mp hl
      · obtain ⟨hl, ⟨⟩⟩ := Option.ite_none_right_eq_some.mp h
        exact (baselineAllowed_iff _ _).mp hl
      · exact absurd h (by simp)
    · exact absurd h (by simp)

theorem setConfig_keeps_settings (e : CommandEntry) (s : State) (h : s.SettingsLawful) :
    (setConfig e s).1.SettingsLawful := by
  unfold setConfig
  split
  · exact h
  · next c hc =>
    split
    · next hcross =>
      obtain ⟨hhalf, hpitch⟩ := (c.crossChecks_iff s.mse.measures).mp hcross
      exact ⟨inRange_of_configRecord? hc, hpitch, h.blockSize, fun m => (h.measures m).of_halfLength (hhalf m)⟩
    · exact h

theorem setStream_keeps_settings (e : CommandEntry) (s : State) (h : s.SettingsLawful) :
    (setStream e s).1.SettingsLawful := by
  unfold setStream
  dsimp only
  split
  · next hsize =>
    split
    · exact ⟨h.config, h.pitch, hsize, h.measures⟩
    · exact ⟨h.config, h.pitch, hsize, h.measures⟩
  · exact h

theorem writeMeasure_keeps_settings (e : CommandEntry) (s : State) (h : s.SettingsLawful) :
    (writeMeasure e s).1.SettingsLawful := by
  unfold writeMeasure
  split
  · next hi =>
    split
    · exact h
    · next m hm =>
      refine ⟨h.config, h.pitch, h.blockSize, fun k => ?_⟩
      show ((s.mse.measures.set _ m hi)[k]).Lawful _
      by_cases hk : field e.args 0 1 = k.val
      · rw [show (s.mse.measures.set _ m hi)[k] = m by simp [hk]]
        exact lawful_of_measureEntry? hm
      · rw [show (s.mse.measures.set _ m hi)[k] = s.mse.measures[k] by simp [Vector.getElem_set_ne, hk]]
        exact h.measures k
  · exact h

/-- The parts that the law of the settings reads. -/
def settingsParts : List Part := [.config, .blockSize, .measures]

theorem readsOnly_settingsLawful : ReadsOnly settingsParts State.SettingsLawful := by
  intro s t h hs
  have hc : t.cmu.config = s.cmu.config := h .config (by simp [settingsParts])
  have hb : t.cmu.blockSize = s.cmu.blockSize := h .blockSize (by simp [settingsParts])
  have hm : t.mse.measures = s.mse.measures := h .measures (by simp [settingsParts])
  refine ⟨hc ▸ hs.config, hc ▸ hs.pitch, hb ▸ hs.blockSize, fun m => ?_⟩
  rw [hm, hc]
  exact hs.measures m

theorem default_inRange : ConfigRecord.default.InRange := by
  constructor <;> decide

theorem reset_settingsLawful : State.reset.SettingsLawful where
  config := default_inRange
  pitch := by decide
  blockSize := by decide
  measures m := by
    rw [show State.reset.mse.measures[m] = .disabled from Vector.getElem_replicate ..]
    trivial

theorem commandedReset_settingsLawful (s : State) (k : ResetKind) (h : s.SettingsLawful) :
    (s.commandedReset k).SettingsLawful := by
  cases k with
  | cold =>
    exact ⟨reset_settingsLawful.config, reset_settingsLawful.pitch, reset_settingsLawful.blockSize,
      reset_settingsLawful.measures⟩
  | warm => exact ⟨h.config, h.pitch, h.blockSize, h.measures⟩

/-- R33, R35, R117: every command keeps the settings lawful. -/
theorem exec_settingsLawful (c : Instr) (s t : State) (hs : s.SettingsLawful) (h : exec c s = .next t) :
    t.SettingsLawful := by
  cases c with
  | powerOnReset straps =>
    obtain rfl := Host.Outcome.next.inj h
    exact ⟨reset_settingsLawful.config, reset_settingsLawful.pitch, reset_settingsLawful.blockSize,
      reset_settingsLawful.measures⟩
  | setConfig =>
    obtain rfl := Host.Outcome.next.inj h
    exact readsOnly_settingsLawful.runCommand rfl setConfig_keeps_settings hs
  | setStream =>
    obtain rfl := Host.Outcome.next.inj h
    exact readsOnly_settingsLawful.runCommand rfl setStream_keeps_settings hs
  | writeMeasure =>
    obtain rfl := Host.Outcome.next.inj h
    exact readsOnly_settingsLawful.runCommand rfl writeMeasure_keeps_settings hs
  | transmissionEnd =>
    obtain rfl := Host.Outcome.next.inj h
    exact readsOnly_settingsLawful.transmissionEnd rfl commandedReset_settingsLawful hs
  | _ => exact readsOnly_settingsLawful.exec_untouched h rfl hs

/-! ### The limit sets (R129, R130) -/

/-- R130: every limit set within its rules. -/
def State.LimitsLawful (s : State) : Prop := ∀ (b : Fin 5) (m : Fin 16), (s.exd.limitSet b m).Lawful

theorem readsOnly_limitsLawful : ReadsOnly [.limits] State.LimitsLawful := by
  intro s t h hs b m
  have hl : t.exd.limits = s.exd.limits := h .limits (by simp)
  rw [Exd.limitSet, hl]
  exact hs b m

/-- R130: the set of a WRITE LIMITS that passes both checks is lawful. -/
theorem lawful_of_limitSet? {a : List Octet} {l : LimitSet} (h : limitSet? a = some l) (hl : l.consistent = true) :
    l.Lawful := by
  obtain ⟨hsecond, hthird, hhyst⟩ := (LimitSet.consistent_iff l).mp hl
  unfold limitSet? at h
  split at h
  · exact absurd h (by simp)
  · dsimp only at h
    obtain ⟨hr, ⟨⟩⟩ := Option.ite_none_right_eq_some.mp h
    obtain ⟨h1, h2, h3, hh, he, he', hx, hx'⟩ := hr
    have hmax : field a 21 2 < 256 ^ 2 := field_lt a 21 2
    exact ⟨⟨h1, h2, h3, hh⟩, ⟨he, he', hx, hx'⟩, by simp only; omega, hsecond, hthird, hhyst⟩

theorem writeLimits_keeps_limits (e : CommandEntry) (s : State) (h : s.LimitsLawful) : (writeLimits e s).1.LimitsLawful := by
  unfold writeLimits
  split
  · split
    · exact h
    · next l hl =>
      split
      · next hc =>
        intro b m
        show ((s.exd.setLimits _ _ l).limitSet b m).Lawful
        rw [limitSet_setLimits]
        split
        · exact lawful_of_limitSet? hl hc
        · exact h b m
      · exact h
  · exact h

theorem reset_limitsLawful : State.reset.LimitsLawful := by
  intro b m
  rw [show State.reset.exd.limitSet b m = .default by
    show ((Vector.replicate 5 (Vector.replicate 16 LimitSet.default))[b])[m] = _
    simp]
  constructor <;> decide

theorem commandedReset_limitsLawful (s : State) (k : ResetKind) (h : s.LimitsLawful) :
    (s.commandedReset k).LimitsLawful := by
  cases k with
  | cold => exact reset_limitsLawful
  | warm => exact h

/-- R130: every command keeps the limit sets lawful. -/
theorem exec_limitsLawful (c : Instr) (s t : State) (hs : s.LimitsLawful) (h : exec c s = .next t) : t.LimitsLawful := by
  cases c with
  | powerOnReset straps =>
    obtain rfl := Host.Outcome.next.inj h
    exact reset_limitsLawful
  | writeLimits =>
    obtain rfl := Host.Outcome.next.inj h
    exact readsOnly_limitsLawful.runCommand rfl writeLimits_keeps_limits hs
  | transmissionEnd =>
    obtain rfl := Host.Outcome.next.inj h
    exact readsOnly_limitsLawful.transmissionEnd rfl commandedReset_limitsLawful hs
  | _ => exact readsOnly_limitsLawful.exec_untouched h rfl hs

end Sys2Proof.Machine

/-! The statement about the settings and the limit sets. -/

namespace Sys2Proof.Proofs

open Sys2Proof Sys2Proof.Machine

/-- Settles O54, command by command of those that write the settings, the measure table or the limits. -/
theorem settingsStayLawful : Obligations.SettingsStayLawful :=
  ⟨fun _ _ hs h => readsOnly_settingsLawful.step rfl exec_settingsLawful hs h,
    fun _ _ hs h => readsOnly_limitsLawful.step rfl exec_limitsLawful hs h⟩

end Sys2Proof.Proofs


/-! SUPPORT. Everything the arbiter's choice can do (R186), and the agreement of the frame being assembled, its header, its
check word and its onward copy across a step (R4, R7, R8, R13, R14, R190, R191). -/

namespace Sys2Proof.Machine

/-! ### The arbiter's choice (R186) -/

theorem takeBlock_of_pending {s : State} {i : Fin 2} {b : Block} (h : s.ltx.buffers[i] = .pending b) (rest : List (Fin 2)) :
    s.takeBlock i rest = (s.withLtx { s.ltx with
      lane := .own (.rows i)
      buffers := s.ltx.buffers.set i (.sending b)
      closedOrder := rest }).sendFrame (s.reportFrame kindRows b.payload) := by
  simp only [State.takeBlock, h]

/-- R186: the arbiter takes the first entry in rank order, on an IDLE lane under GO, or does nothing. -/
theorem arbiterChoice_cases (s : State) :
    s.arbiterChoice = s ∨ (s.ltx.lane = .idle ∧
      ((∃ a rest, s.ltx.alerts = a :: rest ∧ s.arbiterChoice = s.takeAlert a rest) ∨
      (∃ f, s.arbiterChoice = s.takeForward f) ∨
      (∃ r rest, s.ltx.responses = r :: rest ∧ s.arbiterChoice = s.takeResponse r rest) ∨
      (∃ r rest, s.ltx.locations = r :: rest ∧ s.arbiterChoice = s.takeLocation r rest) ∨
      (∃ c, s.ext.nextPosted = some c ∧ s.arbiterChoice = s.takeContext c s.ext.posted.tail) ∨
      (∃ r rest, s.ltx.segments = r :: rest ∧ s.arbiterChoice = s.takeSegment r rest) ∨
      ∃ i rest b, s.ltx.closedOrder = i :: rest ∧ s.ltx.buffers[i] = .pending b ∧
        s.arbiterChoice = (s.withLtx { s.ltx with
          lane := .own (.rows i)
          buffers := s.ltx.buffers.set i (.sending b)
          closedOrder := rest }).sendFrame (s.reportFrame kindRows b.payload))) := by
  unfold State.arbiterChoice
  split
  · next hgo =>
    unfold State.chooseFrame
    split
    · next a rest ha => exact .inr ⟨hgo.1, .inl ⟨a, rest, ha, rfl⟩⟩
    · next f _ _ _ => exact .inr ⟨hgo.1, .inr (.inl ⟨f, rfl⟩)⟩
    · next r rest _ _ hr => exact .inr ⟨hgo.1, .inr (.inr (.inl ⟨r, rest, hr, rfl⟩))⟩
    · unfold State.chooseReports
      split
      · next r rest hr => exact .inr ⟨hgo.1, .inr (.inr (.inr (.inl ⟨r, rest, hr, rfl⟩)))⟩
      · next c _ hc => exact .inr ⟨hgo.1, .inr (.inr (.inr (.inr (.inl ⟨c, hc, rfl⟩))))⟩
      · unfold State.chooseRecords
        split
        · next r rest hr => exact .inr ⟨hgo.1, .inr (.inr (.inr (.inr (.inr (.inl ⟨r, rest, hr, rfl⟩)))))⟩
        · next i rest _ hi =>
          cases hb : s.ltx.buffers[i] with
          | pending b => exact .inr ⟨hgo.1, .inr (.inr (.inr (.inr (.inr (.inr ⟨i, rest, b, hi, hb, takeBlock_of_pending hb rest⟩)))))⟩
          | empty | filling | sending => exact .inl (by simp only [State.takeBlock, hb])
        · exact .inl rfl
  · exact .inl rfl

/-- R190: the arbiter never begins a cut-through copy. -/
theorem arbiterChoice_cutThrough {s : State} (h : s.arbiterChoice.ltx.lane = .cutThrough) : s.arbiterChoice = s := by
  rcases arbiterChoice_cases s with hs | ⟨_, h'⟩
  · exact hs
  · rcases h' with ⟨_, _, _, h'⟩ | ⟨_, h'⟩ | ⟨_, _, _, h'⟩ | ⟨_, _, _, h'⟩ | ⟨_, _, h'⟩ | ⟨_, _, _, h'⟩ | ⟨_, _, _, _, _, h'⟩
    all_goals
      rw [h'] at h
      exact absurd h nofun

/-- R187: the end of a transmission leaves a cut-through copy alone, and leaves the lane IDLE after any other frame. -/
theorem transmissionEnd_cutThrough {s : State} (h : s.transmissionEnd.ltx.lane = .cutThrough) : s.transmissionEnd = s := by
  unfold State.transmissionEnd at h ⊢
  split
  · rfl
  · rfl
  · next hl =>
    simp only [hl] at h
    exact absurd h nofun
  · next f hl =>
    simp only [hl] at h
    refine absurd h ?_
    unfold State.completeOwn
    split
    · nofun
    · nofun
    · nofun
    · split
      · nofun
      · nofun
    · nofun
    · nofun

/-! ### The running check word (R3, R7) -/

theorem checkWord_concat (os : List Octet) (b : Octet) : checkWord (os ++ [b]) = checkOctet (checkWord os) b := by
  simp [checkWord, List.foldl_append]

/-! ### The copy of a frame handed over (R13, R190, R191) -/

/-- R190, R191: no frame is copied cut-through or held in the store buffer. -/
def Ltx.CopyFree (l : Ltx) : Prop := l.lane ≠ .cutThrough ∧ l.store = none

theorem copyCoherent_none (l : Ltx) : l.CopyCoherent none ↔ l.CopyFree := by
  simp [Ltx.CopyCoherent, Ltx.CopyFree]

theorem queueStored_copyFree {l : Ltx} (h : l.lane ≠ .cutThrough) : l.queueStored.CopyFree := by
  unfold Ltx.queueStored
  split
  · next hs => exact ⟨h, hs⟩
  · split
    · exact ⟨h, rfl⟩
    · exact ⟨h, rfl⟩

/-- R190, R191: a drop notice leaves no copy, whichever way the frame is copied. -/
theorem dropNotice_copyFree {s : State} {octets : Option (List Octet)} (h : s.ltx.CopyCoherent octets) :
    s.dropNotice.ltx.CopyFree := by
  rcases h with ⟨hlane, hstore, _⟩ | ⟨hlane, _⟩
  · rw [dropNotice_of_cutThrough hlane]
    exact ⟨nofun, hstore⟩
  · rw [dropNotice_of_stored hlane]
    exact ⟨hlane, rfl⟩

theorem endNotice_copyFree {s : State} {octets : Option (List Octet)} (h : s.ltx.CopyCoherent octets) :
    s.endNotice.ltx.CopyFree := by
  rcases h with ⟨hlane, hstore, _⟩ | ⟨hlane, _⟩
  · rw [endNotice_of_cutThrough hlane]
    exact ⟨nofun, hstore⟩
  · rw [endNotice_of_stored hlane]
    exact queueStored_copyFree hlane

section

variable {s : State} {f : Assembly} (hs : s.LinkCoherent) (hf : s.lrx.receiver = .receiving f)

include hs hf

theorem copyCoherent_of_handsOver (h : f.handsOver = true) : s.ltx.CopyCoherent (some f.octets) := by
  simpa [hf, Receiver.handed, h] using hs.copy

theorem copyFree_of_not_handsOver (h : f.handsOver = false) : s.ltx.CopyFree := by
  rw [← copyCoherent_none]
  simpa [hf, Receiver.handed, h] using hs.copy

/-- R9 to R13: once the frame is discarded nothing of it is copied on. -/
theorem discardFrame_copyFree : (s.discardFrame f).ltx.CopyFree := by
  unfold State.discardFrame
  split
  · next h => exact dropNotice_copyFree (copyCoherent_of_handsOver hs hf h)
  · next h => exact copyFree_of_not_handsOver hs hf (by simpa using h)

theorem goodFrame_copyFree : (if f.handsOver then s.endNotice else s).ltx.CopyFree := by
  split
  · next h => exact endNotice_copyFree (copyCoherent_of_handsOver hs hf h)
  · next h => exact copyFree_of_not_handsOver hs hf (by simpa using h)

end

theorem copyFree_of_not_handed {s : State} (hs : s.LinkCoherent) (h : s.lrx.receiver.handed = none) :
    s.ltx.CopyFree := by
  rw [← copyCoherent_none]
  exact h ▸ hs.copy

/-- With no copy and nothing handed over, the receiver's frame is all there is to agree. -/
theorem linkCoherent_of_copyFree {s : State} (hcopy : s.ltx.CopyFree) (hhanded : s.lrx.receiver.handed = none)
    (hassembly : ∀ f, s.lrx.receiver = .receiving f → f.Coherent s.stationOctet) : s.LinkCoherent where
  assembly := hassembly
  copy := hhanded ▸ (copyCoherent_none _).mpr hcopy
  sent h := absurd h hcopy.1

theorem fresh_coherent (own : Octet) : Assembly.fresh.Coherent own := ⟨by decide, rfl⟩

/-- R5, R9 to R12: with no copy, the receiver outside a frame, or at its START, agrees. -/
theorem linkCoherent_withLrx {s : State} (hcopy : s.ltx.CopyFree) (l : Lrx)
    (hl : l.receiver = .hunt ∨ l.receiver = .ready ∨ l.receiver = .receiving .fresh) : (s.withLrx l).LinkCoherent := by
  rcases hl with hl | hl | hl
  · exact linkCoherent_of_copyFree hcopy (by simp [hl, Receiver.handed]) (by simp [hl])
  · exact linkCoherent_of_copyFree hcopy (by simp [hl, Receiver.handed]) (by simp [hl])
  · refine linkCoherent_of_copyFree hcopy (by simp [hl, Receiver.handed, Assembly.handsOver, Assembly.fresh]) fun f hf => ?_
    obtain rfl : Assembly.fresh = f := by simpa [hl] using hf
    exact fresh_coherent _

/-! ### Each arrival (R5 to R12) -/

theorem headerOctet_linkCoherent {s : State} {f : Assembly} (hs : s.LinkCoherent) (hf : s.lrx.receiver = .receiving f)
    (hh : f.header = none) (b : Octet) : (s.headerOctet f b).LinkCoherent := by
  have hcoherent := hs.assembly f hf
  simp only [Assembly.Coherent, hh] at hcoherent
  obtain ⟨hlength, hcheck⟩ := hcoherent
  have hfree : s.ltx.CopyFree := copyFree_of_not_handsOver hs hf (by simp [Assembly.handsOver, hh])
  have hconcat : checkOctet f.check b = checkWord (f.octets ++ [b]) := by rw [checkWord_concat, hcheck]
  unfold State.headerOctet
  dsimp only
  split
  · next hshort =>
    refine linkCoherent_of_copyFree hfree (by simp [Receiver.handed, Assembly.handsOver, hh]) fun g hg => ?_
    obtain rfl := Receiver.receiving.inj hg
    simp only [Assembly.Coherent, hh]
    exact ⟨hshort, hconcat⟩
  · next hfive =>
    have hlen : (f.octets ++ [b]).length = 5 := by
      simp only [List.length_append, List.length_singleton] at hfive ⊢
      omega
    split
    · exact linkCoherent_withLrx hfree _ (.inl rfl)
    · next hmax =>
      have hassembly : Assembly.Coherent s.stationOctet
          { f with
            octets := f.octets ++ [b], check := checkOctet f.check b
            header := some (headerOf s.stationOctet (f.octets ++ [b])) } := by
        refine ⟨by rw [List.take_of_length_le hlen.le], Nat.le_of_not_lt hmax, hlen.ge, ?_, ?_⟩
        · show (f.octets ++ [b]).length < _
          omega
        · show _ = checkWord (List.take _ (f.octets ++ [b]))
          rw [List.take_of_length_le (by omega)]
          exact hconcat
      split
      · next hhands =>
        have hhanded : Receiver.handed (.receiving
            { f with
              octets := f.octets ++ [b], check := checkOctet f.check b
              header := some (headerOf s.stationOctet (f.octets ++ [b])) }) = some (f.octets ++ [b]) := if_pos hhands
        rw [List.take_of_length_le hlen.le]
        unfold State.frameStartNotice
        split
        · refine ⟨fun g hg => Receiver.receiving.inj hg ▸ hassembly, .inl ⟨rfl, hfree.2, Option.isSome_of_eq_some hhanded⟩, ?_⟩
          intro _ octets hoctets
          obtain rfl : f.octets ++ [b] = octets := Option.some.inj (hhanded.symm.trans hoctets)
          exact List.suffix_append _ _
        · refine ⟨fun g hg => Receiver.receiving.inj hg ▸ hassembly, .inr ⟨hfree.1, hhanded.symm⟩, ?_⟩
          exact fun h => absurd h hfree.1
      · next hhands =>
        exact linkCoherent_of_copyFree hfree (if_neg hhands) fun g hg => Receiver.receiving.inj hg ▸ hassembly

theorem handOctet_withLrx (s : State) (l : Lrx) (b : Octet) : (s.withLrx l).handOctet b = (s.handOctet b).withLrx l := by
  rw [State.handOctet, State.handOctet, apply_ite (State.withLrx · l)]
  rfl

/-- R7: the running check word after one octet more. -/
theorem check_after_octet {octets : List Octet} {check : Half} {n : Nat} (hcheck : check = checkWord (octets.take n))
    (b : Octet) :
    (if octets.length + 1 ≤ n then checkOctet check b else check) = checkWord ((octets ++ [b]).take n) := by
  split
  · next h =>
    rw [List.take_of_length_le (by simpa using h), checkWord_concat, hcheck, List.take_of_length_le (by omega)]
  · next h => rw [List.take_append_of_le_length (by omega), hcheck]

theorem bodyOctet_linkCoherent {s : State} {f : Assembly} {h : Header} (hs : s.LinkCoherent)
    (hf : s.lrx.receiver = .receiving f) (hh : f.header = some h) (b : Octet) : (s.bodyOctet f h b).LinkCoherent := by
  have hcoherent := hs.assembly f hf
  simp only [Assembly.Coherent, hh] at hcoherent
  obtain ⟨hheader, hmax, hfive, _, hcheck⟩ := hcoherent
  unfold State.bodyOctet
  dsimp only
  split
  · rw [discardFrame_withLrx]
    exact linkCoherent_withLrx (discardFrame_copyFree hs hf) _ (.inl rfl)
  · next hroom =>
    have hassembly : Assembly.Coherent s.stationOctet
        { f with
          octets := f.octets ++ [b]
          check := if f.octets.length + 1 ≤ 5 + h.length then checkOctet f.check b else f.check } := by
      simp only [Assembly.Coherent, hh]
      refine ⟨?_, hmax, ?_, ?_, check_after_octet hcheck b⟩
      · rw [List.take_append_of_le_length hfive]
        exact hheader
      · simp only [List.length_append, List.length_singleton]
        omega
      · simp only [List.length_append, List.length_singleton]
        omega
    have hhands : Assembly.handsOver
        { f with
          octets := f.octets ++ [b]
          check := if f.octets.length + 1 ≤ 5 + h.length then checkOctet f.check b else f.check } = f.handsOver := rfl
    rw [hhands]
    split
    · next hover =>
      have hhanded : Receiver.handed (.receiving
          { f with
            octets := f.octets ++ [b]
            check := if f.octets.length + 1 ≤ 5 + h.length then checkOctet f.check b else f.check }) =
          some (f.octets ++ [b]) := if_pos hover
      rcases copyCoherent_of_handsOver hs hf hover with ⟨hlane, hstore, _⟩ | ⟨hlane, hstore⟩
      · rw [handOctet_withLrx, handOctet_of_cutThrough hlane]
        refine ⟨fun g hg => Receiver.receiving.inj hg ▸ hassembly, .inl ⟨hlane, hstore, Option.isSome_of_eq_some hhanded⟩, ?_⟩
        intro _ octets hoctets
        obtain rfl : f.octets ++ [b] = octets := Option.some.inj (hhanded.symm.trans hoctets)
        obtain ⟨before, hbefore⟩ := hs.sent hlane f.octets (by simp [hf, Receiver.handed, hover])
        exact ⟨before, by simp [← hbefore]⟩
      · rw [handOctet_withLrx, handOctet_of_stored hlane hstore]
        exact ⟨fun g hg => Receiver.receiving.inj hg ▸ hassembly, .inr ⟨hlane, hhanded.symm⟩, fun h => absurd h hlane⟩
    · next hover =>
      have hfree := copyFree_of_not_handsOver hs hf (by simpa using hover)
      exact linkCoherent_of_copyFree hfree (if_neg hover) fun g hg => Receiver.receiving.inj hg ▸ hassembly

theorem arriveOctet_linkCoherent {s : State} (hs : s.LinkCoherent) (b : Octet) : (s.arriveOctet b).LinkCoherent := by
  unfold State.arriveOctet
  split
  · exact hs
  · next hr => exact linkCoherent_withLrx (copyFree_of_not_handed hs (by simp [hr, Receiver.handed])) _ (.inl rfl)
  · next f hf =>
    split
    · next hh => exact headerOctet_linkCoherent hs hf hh b
    · next h hh => exact bodyOctet_linkCoherent hs hf hh b

theorem arriveIdle_linkCoherent {s : State} (hs : s.LinkCoherent) : s.arriveIdle.LinkCoherent := by
  unfold State.arriveIdle
  split
  · next hr => exact linkCoherent_withLrx (copyFree_of_not_handed hs (by simp [hr, Receiver.handed])) _ (.inr (.inl rfl))
  · exact hs
  · next f hf =>
    rw [discardFrame_withLrx]
    exact linkCoherent_withLrx (discardFrame_copyFree hs hf) _ (.inr (.inl rfl))

theorem arriveStart_linkCoherent {s : State} (hs : s.LinkCoherent) : s.arriveStart.LinkCoherent := by
  unfold State.arriveStart
  split
  · next hr => exact linkCoherent_withLrx (copyFree_of_not_handed hs (by simp [hr, Receiver.handed])) _ (.inr (.inr rfl))
  · next hr => exact linkCoherent_withLrx (copyFree_of_not_handed hs (by simp [hr, Receiver.handed])) _ (.inr (.inr rfl))
  · next f hf =>
    rw [discardFrame_withLrx]
    exact linkCoherent_withLrx (discardFrame_copyFree hs hf) _ (.inr (.inr rfl))

theorem arriveAbort_linkCoherent {s : State} (hs : s.LinkCoherent) : s.arriveAbort.LinkCoherent := by
  unfold State.arriveAbort
  split
  · exact hs
  · next hr => exact linkCoherent_withLrx (copyFree_of_not_handed hs (by simp [hr, Receiver.handed])) _ (.inr (.inl rfl))
  · next f hf =>
    rw [discardFrame_withLrx]
    exact linkCoherent_withLrx (discardFrame_copyFree hs hf) _ (.inr (.inl rfl))

theorem judgeFrame_linkCoherent {s : State} {f : Assembly} (hs : s.LinkCoherent) (hf : s.lrx.receiver = .receiving f) :
    (s.judgeFrame f).LinkCoherent := by
  unfold State.judgeFrame
  split
  · next hh =>
    exact linkCoherent_withLrx (copyFree_of_not_handsOver hs hf (by simp [Assembly.handsOver, hh])) _ (.inr (.inl rfl))
  · next h _ =>
    split
    · rw [discardFrame_withLrx]
      exact linkCoherent_withLrx (discardFrame_copyFree hs hf) _ (.inr (.inl rfl))
    · split
      · rw [goodFrame_eq]
        obtain ⟨_, _, _, hgood⟩ := afterGood_frame s.lrx h (f.payload h)
        exact linkCoherent_withLrx (goodFrame_copyFree hs hf) _ (.inr (.inl (by rw [hgood])))
      · rw [discardFrame_withLrx]
        exact linkCoherent_withLrx (discardFrame_copyFree hs hf) _ (.inr (.inl rfl))

theorem arriveEnd_linkCoherent {s : State} (hs : s.LinkCoherent) : s.arriveEnd.LinkCoherent := by
  unfold State.arriveEnd
  split
  · exact hs
  · next hr => exact linkCoherent_withLrx (copyFree_of_not_handed hs (by simp [hr, Receiver.handed])) _ (.inr (.inl rfl))
  · next f hf => exact judgeFrame_linkCoherent hs hf

theorem loseLock_linkCoherent {s : State} (hs : s.LinkCoherent) : s.loseLock.LinkCoherent := by
  have hfree : (if s.lrx.receiver.handed.isSome then s.dropNotice else s).ltx.CopyFree := by
    split
    · exact dropNotice_copyFree hs.copy
    · next h => exact copyFree_of_not_handed hs (by simpa using h)
  rw [loseLock_eq]
  exact linkCoherent_withLrx (s := (if s.lrx.receiver.handed.isSome then s.dropNotice else s).withLineLock false) hfree _
    (.inl rfl)

theorem whileLocked_keeps {P : State → Prop} {arrival : State → State} (h : ∀ s, P s → P (arrival s)) {s t : State}
    (hs : P s) (ht : s.whileLocked arrival = .next t) : P t := by
  obtain rfl := Host.Outcome.next.inj ht
  split
  · exact h s hs
  · exact hs

/-! ### The lane outside the arrivals (R36, R186, R187) -/

theorem arbiterChoice_linkCoherent {s : State} (hs : s.LinkCoherent) : s.arbiterChoice.LinkCoherent := by
  have hreceiver : s.arbiterChoice.lrx.receiver = s.lrx.receiver := arbiterChoice_same (p := .receiver) rfl s
  have hstation : s.arbiterChoice.stationOctet = s.stationOctet :=
    congrArg (BitVec.setWidth 8) (arbiterChoice_same (p := .station) rfl s)
  have hstore : s.arbiterChoice.ltx.store = s.ltx.store := arbiterChoice_same (p := .store) rfl s
  by_cases hlane : s.ltx.lane = .idle
  · have hnot : s.arbiterChoice.ltx.lane ≠ .cutThrough := fun h => by
      rw [arbiterChoice_cutThrough h, hlane] at h
      exact absurd h nofun
    rcases hs.copy with ⟨hcut, _⟩ | ⟨_, hcopy⟩
    · exact absurd (hlane.symm.trans hcut) nofun
    · exact ⟨fun f hf => hstation ▸ hs.assembly f (hreceiver ▸ hf), .inr ⟨hnot, by rw [hstore, hreceiver, hcopy]⟩,
        fun h => absurd h hnot⟩
  · rw [arbiterChoice_of_lane_ne_idle hlane]
    exact hs

theorem voidCopy_handed (r : Receiver) : r.voidCopy.handed = none := by
  cases r with
  | hunt | ready => rfl
  | receiving f => cases hh : f.header <;> simp [Receiver.voidCopy, Receiver.handed, Assembly.handsOver, hh]

/-- R14: a commanded reset leaves the frame being assembled, without its copy. -/
theorem commandedReset_linkCoherent {s : State} (h : ∀ f, s.lrx.receiver = .receiving f → f.Coherent s.stationOctet)
    (k : ResetKind) : (s.commandedReset k).LinkCoherent := by
  refine linkCoherent_of_copyFree ⟨nofun, rfl⟩ (voidCopy_handed _) fun g hg => ?_
  cases hr : s.lrx.receiver with
  | hunt | ready => simp [State.commandedReset, Lrx.commandedReset, Receiver.voidCopy, hr] at hg
  | receiving f =>
    have hg' : Receiver.receiving { f with copyVoid := true } = .receiving g := by
      simpa [State.commandedReset, Lrx.commandedReset, Receiver.voidCopy, hr] using hg
    obtain rfl := Receiver.receiving.inj hg'
    exact h f hr

theorem transmissionEnd_linkCoherent {s : State} (hs : s.LinkCoherent) : s.transmissionEnd.LinkCoherent := by
  by_cases hcut : s.ltx.lane = .cutThrough
  · rw [show s.transmissionEnd = s by simp only [State.transmissionEnd, hcut]]
    exact hs
  · rcases transmissionEnd_cases s with ⟨⟨_, _, _, _, _, _, hend⟩, _⟩ | ⟨r, k, _, _, hend⟩
    · have hnot : s.transmissionEnd.ltx.lane ≠ .cutThrough := fun h => hcut (by rwa [transmissionEnd_cutThrough h] at h)
      rcases hs.copy with ⟨hc, _⟩ | ⟨_, hcopy⟩
      · exact absurd hc hcut
      · refine ⟨?_, .inr ⟨hnot, ?_⟩, fun h => absurd h hnot⟩
        · rw [hend]
          exact hs.assembly
        · rw [hend]
          exact hcopy
    · rw [hend]
      exact commandedReset_linkCoherent (s := s.endFrameOnLane) hs.assembly k

theorem powerOnReset_linkCoherent (s : State) (straps : BitVec 6) : (s.powerOnReset straps).LinkCoherent :=
  linkCoherent_of_copyFree ⟨nofun, rfl⟩ rfl nofun

/-- The parts that the agreement of receiver and copy reads. -/
def linkParts : List Part := [.station, .receiver, .lane, .store, .outbound]

theorem readsOnly_linkCoherent : ReadsOnly linkParts State.LinkCoherent := by
  intro s t h hs
  have hstation : t.stationOctet = s.stationOctet := congrArg (BitVec.setWidth 8) (h .station (by simp [linkParts]))
  have hreceiver : t.lrx.receiver = s.lrx.receiver := h .receiver (by simp [linkParts])
  have hlane : t.ltx.lane = s.ltx.lane := h .lane (by simp [linkParts])
  have hstore : t.ltx.store = s.ltx.store := h .store (by simp [linkParts])
  have houtbound : t.outbound = s.outbound := h .outbound (by simp [linkParts])
  refine ⟨fun f hf => hstation ▸ hs.assembly f (hreceiver ▸ hf), ?_, fun hl octets ho => ?_⟩
  · rw [Ltx.CopyCoherent, hlane, hstore, hreceiver]
    exact hs.copy
  · rw [houtbound]
    exact hs.sent (hlane ▸ hl) octets (hreceiver ▸ ho)

/-- R4, R7, R13, R190, R191: every command keeps the receiver and its copy in agreement. -/
theorem exec_linkCoherent (c : Instr) (s t : State) (hs : s.LinkCoherent) (h : exec c s = .next t) : t.LinkCoherent := by
  cases c with
  | dataOctet b => exact whileLocked_keeps (P := State.LinkCoherent) (fun _ hs => arriveOctet_linkCoherent hs b) hs h
  | idle => exact whileLocked_keeps (P := State.LinkCoherent) (fun _ => arriveIdle_linkCoherent) hs h
  | start => exact whileLocked_keeps (P := State.LinkCoherent) (fun _ => arriveStart_linkCoherent) hs h
  | endFrame => exact whileLocked_keeps (P := State.LinkCoherent) (fun _ => arriveEnd_linkCoherent) hs h
  | abort => exact whileLocked_keeps (P := State.LinkCoherent) (fun _ => arriveAbort_linkCoherent) hs h
  | lossOfLock =>
    obtain rfl := Host.Outcome.next.inj h
    exact loseLock_linkCoherent hs
  | powerOnReset straps =>
    obtain rfl := Host.Outcome.next.inj h
    exact powerOnReset_linkCoherent s straps
  | arbiterChoice =>
    obtain rfl := Host.Outcome.next.inj h
    exact arbiterChoice_linkCoherent hs
  | transmissionEnd =>
    obtain rfl := Host.Outcome.next.inj h
    exact transmissionEnd_linkCoherent hs
  | _ => exact readsOnly_linkCoherent.exec_untouched h rfl hs

end Sys2Proof.Machine

/-! The statement about the receiver and the copy passed on. -/

namespace Sys2Proof.Proofs

open Sys2Proof Sys2Proof.Machine

/-- Settles O53: arrival by arrival at LRX, then the arbiter, the end of a transmission and the resets at LTX. -/
theorem theReceiverAndItsCopyStayCoherent : Obligations.TheReceiverAndItsCopyStayCoherent :=
  fun _ _ hs h => readsOnly_linkCoherent.step rfl exec_linkCoherent hs h

end Sys2Proof.Proofs


/-! SUPPORT. Detectors, contexts and the open map across a row, a truncation, an arrival and a transmission: what notices the
judgement of one measure sends and what they do to the measure's entry (R133 to R145, R150 to R155, R160, R165, R166). -/

namespace Sys2Proof.Machine

/-! ### The notices of one measure (R146, R153) -/

/-- R146: notices of measure `m` that open, follow and close in order, from an exceedance open or not to one open or not. -/
inductive NoticeChain (m : Fin 16) : Bool → List Notice → Bool → Prop where
  | nil (b : Bool) : NoticeChain m b [] b
  | opened {b : Bool} {ns : List Notice} (run : PendingRun) (level : Nat) (row : RowRef) (epoch : BitVec 8) (speed : Nat)
      (h : NoticeChain m true ns b) : NoticeChain m false (.opened m run level row epoch speed :: ns) b
  | row {b : Bool} {ns : List Notice} (row : RowRef) (epoch : BitVec 8) (valid : Bool) (magnitude : Nat) (signed : Int)
      (saturated lowSpeed : Bool) (speed level : Nat) (h : NoticeChain m true ns b) :
      NoticeChain m true (.row m row epoch valid magnitude signed saturated lowSpeed speed level :: ns) b
  | closed {b : Bool} {ns : List Notice} (cause : CloseCause) (endRow : RowRef) (level : Nat) (h : NoticeChain m false ns b) :
      NoticeChain m true (.closed m cause endRow level :: ns) b

/-- R135: an outcome of the judgement of measure `m`: a lawful detector, and notices that lead from the mode before to the
mode after. -/
structure Judgement (m : Fin 16) (before : Bool) (r : Detector × List Notice) : Prop where
  lawful : r.1.Lawful true
  chain : NoticeChain m before r.2 (decide (r.1.mode = .active))

theorem cleared_lawful (mode : DetectorMode) (h : mode ≠ .active) (measuring : Bool)
    (hout : measuring = false → mode = .quiet ∨ mode = .disabled) : (Detector.cleared mode).Lawful measuring where
  active ha := absurd ha h
  inactive _ := rfl
  rise hr := absurd hr (Nat.lt_irrefl 0)
  run _ := by simp [Detector.cleared]
  outside := hout

theorem cleared_lawful_measuring (mode : DetectorMode) (h : mode ≠ .active) : (Detector.cleared mode).Lawful true :=
  cleared_lawful mode h true nofun

/-- A detector that judges no exceedance and sends nothing. -/
theorem judgement_silent {m : Fin 16} {d : Detector} (h : d.Lawful true) {before : Bool}
    (hb : before = decide (d.mode = .active)) : Judgement m before (d, []) := ⟨h, hb ▸ .nil _⟩

/-- R146: an exceedance closed into a mode with the counts cleared. -/
theorem judgement_closed {m : Fin 16} (mode : DetectorMode) (h : mode ≠ .active) (d : Detector) (cause : CloseCause)
    (row : RowRef) : Judgement m true (.cleared mode, [d.closeNotice m cause row]) :=
  ⟨cleared_lawful_measuring mode h, .closed _ _ _ (by simpa [Detector.cleared, h] using NoticeChain.nil (m := m) false)⟩

/-! ### The judgement of one measure (R135 to R145) -/

section

variable {d : Detector} {l : LimitSet} {m : Fin 16} {j : Judged}

theorem noLimits_judgement (h : d.Lawful true) : Judgement m (decide (d.mode = .active)) (d.noLimits m j) := by
  unfold Detector.noLimits
  split
  · next hm =>
    simp only [hm, decide_true]
    exact judgement_closed .disabled nofun d .noLimits _
  · next hm => exact judgement_silent (cleared_lawful_measuring .disabled nofun) (by simp [hm, Detector.cleared])
  · next hm => exact judgement_silent (cleared_lawful_measuring .disabled nofun) (by simp [hm, Detector.cleared])
  · exact judgement_silent h rfl

theorem enable_lawful (h : d.Lawful true) : d.enable.Lawful true := by
  unfold Detector.enable
  split
  · exact cleared_lawful_measuring .quiet nofun
  · exact h

theorem enable_active : d.enable.mode = .active ↔ d.mode = .active := by
  unfold Detector.enable
  split
  · next hm => simp [hm, Detector.cleared]
  · rfl

theorem highestLevel_le (p : Nat → Bool) : highestLevel p ≤ 3 := by
  rcases highestLevel_spec p with ⟨h, _⟩ | ⟨_, h, _⟩ <;> omega

/-- R137: a measure with limits has a highest used level. -/
theorem one_le_highestUsed (h : l.used 1 = true) : 1 ≤ l.highestUsed := by
  rcases highestLevel_spec l.used with ⟨_, h1, _⟩ | ⟨h1, _⟩
  · rw [h] at h1
    exact absurd h1 nofun
  · exact h1

theorem lower_lawful (h : d.Lawful true) {u : Nat} (hu : 1 ≤ u) (hu' : u ≤ 3) : (d.lower u).Lawful true := by
  unfold Detector.lower
  split
  · next hm =>
    exact ⟨fun _ => ⟨hu, hu'⟩, fun hn => absurd hm.1 hn, fun hr => absurd hr (Nat.lt_irrefl 0),
      fun hq => absurd (hm.1.symm.trans hq) nofun, nofun⟩
  · exact h

theorem lower_mode (u : Nat) : (d.lower u).mode = d.mode := by
  unfold Detector.lower
  split <;> rfl

theorem suppress_judgement : Judgement m (decide (d.mode = .active)) (d.suppress m j) := by
  unfold Detector.suppress
  split
  · next hm =>
    simp only [hm, decide_true]
    exact judgement_closed .quiet nofun d .suppressed _
  · next hm => exact judgement_silent (cleared_lawful_measuring .quiet nofun) (by simp [hm, Detector.cleared])

/-- R144: the length test of an ACTIVE detector, after the notice that the row brought. -/
theorem checkLength_judgement (h : d.Lawful true) (hm : d.mode = .active) : Judgement m true (d.checkLength l m j) := by
  unfold Detector.checkLength
  split
  · exact judgement_closed .latched nofun d .long _
  · exact judgement_silent h (by simp [hm])

/-- A lawful ACTIVE detector stays lawful whatever its counts, while its level and its rise keep their ranges. -/
theorem lawful_of_active (hm : d.mode = .active) (hlevel : 1 ≤ d.level ∧ d.level ≤ 3)
    (hrise : 0 < d.riseCount → 1 ≤ d.riseMin ∧ d.riseMin ≤ 3) : d.Lawful true :=
  ⟨fun _ => hlevel, fun hn => absurd hm hn, hrise, fun hq => absurd (hm.symm.trans hq) nofun, nofun⟩

theorem stayActive_judgement (hm : d.mode = .active) (hlevel : 1 ≤ d.level ∧ d.level ≤ 3)
    (hrise : 0 < d.riseCount → 1 ≤ d.riseMin ∧ d.riseMin ≤ 3) : Judgement m true (d.stayActive l m j) := by
  have hcheck : Judgement m true ({ d with previous := some j.row }.checkLength l m j) :=
    checkLength_judgement (lawful_of_active hm hlevel hrise) hm
  exact ⟨hcheck.lawful, .row _ _ _ _ _ _ _ _ _ hcheck.chain⟩

/-- R139, R143: a fall run, ended at a level of the limit set or not yet. -/
theorem endFall_judgement (hm : d.mode = .active) (hlevel : 1 ≤ d.level ∧ d.level ≤ 3) {target : Nat} (ht : target ≤ 3) :
    Judgement m true (d.fallRow.endFall l m j target) := by
  unfold Detector.endFall
  split
  · exact stayActive_judgement hm hlevel fun hr => absurd hr (Nat.lt_irrefl 0)
  · split
    · exact ⟨cleared_lawful_measuring .quiet nofun, .row _ _ _ _ _ _ _ _ _ (.closed _ _ _ (.nil _))⟩
    · next htarget =>
      exact stayActive_judgement hm ⟨Nat.pos_of_ne_zero htarget, ht⟩ fun hr => absurd hr (Nat.lt_irrefl 0)

theorem entered_le (a : Nat) : l.entered a ≤ 3 := by
  unfold LimitSet.entered
  split
  · omega
  · exact highestLevel_le _

/-- R140, R141: the rise minimum stays a level. -/
theorem riseMinAfter_range (h : d.Lawful true) {e : Nat} (he : 1 ≤ e) (he' : e ≤ 3) :
    1 ≤ d.riseMinAfter e ∧ d.riseMinAfter e ≤ 3 := by
  unfold Detector.riseMinAfter
  split
  · exact ⟨he, he'⟩
  · next hr =>
    have := h.rise (Nat.pos_of_ne_zero hr)
    omega

theorem judgeActive_judgement (h : d.Lawful true) (hm : d.mode = .active) :
    Judgement m true (d.judgeActive l m j) := by
  have hlevel := h.active hm
  unfold Detector.judgeActive
  dsimp only
  split
  · next he =>
    have hmin := riseMinAfter_range h (e := l.entered (j.magnitude l)) (by omega) (entered_le _)
    unfold Detector.escalate
    split
    · exact stayActive_judgement hm hmin fun hr => absurd hr (Nat.lt_irrefl 0)
    · exact stayActive_judgement hm hlevel fun _ => hmin
  · split
    · exact endFall_judgement hm hlevel (highestLevel_le _)
    · exact stayActive_judgement hm hlevel fun hr => absurd hr (Nat.lt_irrefl 0)

theorem releaseCount_lawful (h : d.Lawful true) (n : Nat) : ({ d with releaseCount := n } : Detector).Lawful true :=
  ⟨h.active, h.inactive, h.rise, h.run, nofun⟩

theorem judgeLatched_judgement (h : d.Lawful true) (hm : d.mode = .latched) :
    Judgement m false (d.judgeLatched l j, []) := by
  unfold Detector.judgeLatched
  split
  · split
    · exact judgement_silent (cleared_lawful_measuring .quiet nofun) (by simp [Detector.cleared])
    · exact judgement_silent (releaseCount_lawful h _) (by simp [hm])
  · exact judgement_silent (releaseCount_lawful h _) (by simp [hm])

/-- R139, R140: a rise cleared in QUIET. -/
theorem clearRise_lawful (h : d.Lawful true) : ({ d with riseCount := 0, riseMin := 0, pendingRun := none } : Detector).Lawful true :=
  ⟨h.active, h.inactive, fun hr => absurd hr (Nat.lt_irrefl 0), fun _ => by simp, nofun⟩

theorem judgeQuiet_judgement (h : d.Lawful true) (hm : d.mode ≠ .active) : Judgement m false (d.judgeQuiet l m j) := by
  unfold Detector.judgeQuiet
  dsimp only
  split
  · exact judgement_silent (clearRise_lawful h) (by simp [hm])
  · next he =>
    have hmin := riseMinAfter_range h (e := l.entered (j.magnitude l)) (Nat.pos_of_ne_zero he) (entered_le _)
    split
    · have hcheck : Judgement m true ((d.activate (l.entered (j.magnitude l)) j.row).checkLength l m j) :=
        checkLength_judgement (lawful_of_active rfl hmin fun hr => absurd hr (Nat.lt_irrefl 0)) rfl
      exact ⟨hcheck.lawful, .opened _ _ _ _ _ hcheck.chain⟩
    · refine judgement_silent ?_ ?_
      · exact ⟨h.active, h.inactive, fun _ => hmin, fun _ => by simp, nofun⟩
      · simp [hm]

theorem judgeValue_judgement (h : d.Lawful true) : Judgement m (decide (d.mode = .active)) (d.judgeValue l m j) := by
  unfold Detector.judgeValue
  split
  · next hm =>
    have hlevel := h.active hm
    simp only [hm, decide_true]
    split
    · exact judgeActive_judgement (d := d.lengthen) (lawful_of_active hm hlevel h.rise) hm
    · exact endFall_judgement (d := d.lengthen) hm hlevel (Nat.zero_le 3)
  · next hm =>
    rw [show decide (d.mode = .active) = false by simp [hm]]
    split
    · exact judgeLatched_judgement h hm
    · exact judgement_silent (releaseCount_lawful h _) (by simp [hm])
  all_goals
    next hm =>
    rw [show decide (d.mode = .active) = false by simp [hm]]
    split
    · exact judgeQuiet_judgement h (by simp [hm])
    · exact judgement_silent (clearRise_lawful h) (by simp [hm])

/-- R135: the judgement of a measure keeps its detector lawful, and its notices lead from mode to mode. -/
theorem judge_judgement (h : d.Lawful true) (kind : MeasureEntry) :
    Judgement m (decide (d.mode = .active)) (d.judge kind l m j) := by
  unfold Detector.judge
  split
  · exact noLimits_judgement h
  · next hlimits =>
    have hused : l.used 1 = true := by simpa using (not_or.mp hlimits).2
    have hlower := lower_lawful (enable_lawful h) (one_le_highestUsed hused) (highestLevel_le l.used)
    have hmode : decide (d.mode = .active) = decide ((d.enable.lower l.highestUsed).mode = .active) := by
      rw [lower_mode]
      exact decide_eq_decide.mpr enable_active.symm
    dsimp only
    rw [hmode]
    split
    · exact suppress_judgement
    · exact judgeValue_judgement hlower

end

/-! ### The context pool (R150 to R155, R160, R165, R166) -/

theorem getElem_set_fin {α : Type} {n : Nat} (v : Vector α n) (i j : Fin n) (a : α) :
    (v.set i.val a)[j] = if j = i then a else v[j] := by
  simp [Vector.getElem_set, Fin.ext_iff, eq_comm]

/-- R150: the law of the pool reads the contexts, the free list, the posted queue and the open map. -/
theorem poolLawful_of_eq {x y : Ext} {lane : Lane} (h : x.PoolLawful lane) (hcontexts : y.contexts = x.contexts)
    (hfree : y.free = x.free) (hposted : y.posted = x.posted) (hmap : y.openMap = x.openMap) : y.PoolLawful lane := by
  exact {
    freeDistinct := hfree ▸ h.freeDistinct
    freeExactly := fun c => by rw [hfree, hcontexts]; exact h.freeExactly c
    postedDistinct := hposted ▸ h.postedDistinct
    postedExactly := fun c => by rw [hposted, hcontexts]; exact h.postedExactly c
    openExactly := fun c => by rw [hcontexts, hmap]; exact h.openExactly c
    openMeasure := fun m c => by rw [hcontexts, hmap]; exact h.openMeasure m c
    sendingExactly := fun c => by rw [hcontexts]; exact h.sendingExactly c }

end Sys2Proof.Machine


/-! SUPPORT. The context pool and the open map across each operation of EXT (R150 to R155, R160, R165, R166), and the
agreement of detectors and open map across a step (R133, R134, R148, R149). -/

namespace Sys2Proof.Machine

theorem nodup_append_singleton {α : Type} {l : List α} (h : l.Nodup) {a : α} (ha : a ∉ l) : (l ++ [a]).Nodup := by
  simpa using List.Nodup.concat ha h

/-! ### The pool across one operation -/

section

variable {x : Ext} {lane : Lane} (h : x.PoolLawful lane)

include h

/-- R151: a context's record may change in all but its measure. -/
theorem updateRecord_poolLawful {k : Fin 32} {f : ExceptionRecord → ExceptionRecord}
    (hf : (f (x.contexts[k]).record).measure = (x.contexts[k]).record.measure) : (x.updateRecord k f).PoolLawful lane := by
  have hstate : ∀ c : Fin 32, ((x.updateRecord k f).contexts[c]).state = (x.contexts[c]).state := fun c => by
    rw [Ext.updateRecord, getElem_set_fin]
    split
    · next hc => rw [hc]
    · rfl
  have hmeasure : ∀ c : Fin 32, ((x.updateRecord k f).contexts[c]).record.measure = (x.contexts[c]).record.measure :=
    fun c => by
      rw [Ext.updateRecord, getElem_set_fin]
      split
      · next hc =>
        rw [hc]
        exact hf
      · rfl
  exact {
    freeDistinct := h.freeDistinct
    freeExactly := fun c => by rw [hstate]; exact h.freeExactly c
    postedDistinct := h.postedDistinct
    postedExactly := fun c => by rw [hstate]; exact h.postedExactly c
    openExactly := fun c => by rw [hstate]; exact h.openExactly c
    openMeasure := fun m c => by rw [hmeasure]; exact h.openMeasure m c
    sendingExactly := fun c => by rw [hstate]; exact h.sendingExactly c }

/-- R154: an entry that names no context is replaced by one that names none. -/
theorem setTracking_poolLawful {m : Fin 16} {e : Tracking} (hm : ∀ k, x.openMap[m] ≠ .tracked k)
    (he : ∀ k, e ≠ .tracked k) : (x.setTracking m e).PoolLawful lane := by
  have hmap : ∀ (m' : Fin 16) (c : Fin 32), (x.setTracking m e).openMap[m'] = .tracked c ↔ x.openMap[m'] = .tracked c := by
    intro m' c
    rw [openMap_setTracking]
    split
    · next hm' =>
      subst hm'
      exact iff_of_false (he c) (hm c)
    · rfl
  exact {
    freeDistinct := h.freeDistinct
    freeExactly := h.freeExactly
    postedDistinct := h.postedDistinct
    postedExactly := h.postedExactly
    openExactly := fun c => (h.openExactly c).trans (exists_congr fun m' => (hmap m' c).symm)
    openMeasure := fun m' c hc => h.openMeasure m' c ((hmap m' c).mp hc)
    sendingExactly := h.sendingExactly }

/-- R154: a tracked context is OPEN. -/
theorem state_of_tracked {m : Fin 16} {k : Fin 32} (hk : x.openMap[m] = .tracked k) : (x.contexts[k]).state = .opened :=
  (h.openExactly k).mpr ⟨m, hk⟩

/-- R154: no two measures name one context. -/
theorem tracked_unique {m m' : Fin 16} {k : Fin 32} (hm : x.openMap[m] = .tracked k) (hm' : x.openMap[m'] = .tracked k) :
    m = m' :=
  (h.openMeasure m k hm).symm.trans (h.openMeasure m' k hm')

theorem not_mem_free {k : Fin 32} {st : ContextState} (hk : (x.contexts[k]).state = st) (hst : st ≠ .free) : k ∉ x.free :=
  fun hf => hst (hk.symm.trans ((h.freeExactly k).mp hf))

theorem not_mem_posted {k : Fin 32} {st : ContextState} (hk : (x.contexts[k]).state = st) (hst : st ≠ .posted) :
    k ∉ x.posted :=
  fun hp => hst (hk.symm.trans ((h.postedExactly k).mp hp))

theorem not_tracked {k : Fin 32} {st : ContextState} (hk : (x.contexts[k]).state = st) (hst : st ≠ .opened) (m : Fin 16) :
    x.openMap[m] ≠ .tracked k :=
  fun hm => hst (hk.symm.trans (state_of_tracked h hm))

theorem not_sending {k : Fin 32} {st : ContextState} (hk : (x.contexts[k]).state = st) (hst : st ≠ .sending) :
    lane ≠ .own (.exception k) :=
  fun hl => hst (hk.symm.trans ((h.sendingExactly k).mpr hl))

/-- R150, R151: a pool in which context `k` alone has moved to a state, with its place on lists, map and lane. -/
theorem poolLawful_of_moved {y : Ext} {lane' : Lane} {k : Fin 32} {st : ContextState}
    (hothers : ∀ c, c ≠ k → y.contexts[c] = x.contexts[c]) (hstate : (y.contexts[k]).state = st)
    (hfreeDistinct : y.free.Nodup) (hpostedDistinct : y.posted.Nodup)
    (hfree : ∀ c, c ∈ y.free ↔ if c = k then st = .free else c ∈ x.free)
    (hposted : ∀ c, c ∈ y.posted ↔ if c = k then st = .posted else c ∈ x.posted)
    (hmap : ∀ (m : Fin 16) (c : Fin 32), y.openMap[m] = .tracked c ↔
      if c = k then st = .opened ∧ m = (y.contexts[k]).record.measure else x.openMap[m] = .tracked c)
    (hlane : ∀ c, lane' = .own (.exception c) ↔ if c = k then st = .sending else lane = .own (.exception c)) :
    y.PoolLawful lane' where
  freeDistinct := hfreeDistinct
  freeExactly c := by
    rw [hfree]
    split
    · next hc => rw [hc, hstate]
    · next hc => rw [hothers c hc, h.freeExactly]
  postedDistinct := hpostedDistinct
  postedExactly c := by
    rw [hposted]
    split
    · next hc => rw [hc, hstate]
    · next hc => rw [hothers c hc, h.postedExactly]
  openExactly c := by
    simp only [hmap]
    split
    · next hc =>
      rw [hc, hstate]
      exact ⟨fun ho => ⟨_, ho, rfl⟩, fun ⟨_, ho, _⟩ => ho⟩
    · next hc => rw [hothers c hc, h.openExactly]
  openMeasure m c hm := by
    rw [hmap] at hm
    split at hm
    · next hc => rw [hc, hm.2]
    · next hc => rw [hothers c hc, h.openMeasure m c hm]
  sendingExactly c := by
    rw [hlane]
    split
    · next hc => rw [hc, hstate]
    · next hc => rw [hothers c hc, h.sendingExactly]

/-- R155: the head of the free list becomes the OPEN context of a measure that had none. -/
theorem openContext_poolLawful {k : Fin 32} {rest : List (Fin 32)} (hfree : x.free = k :: rest) {m : Fin 16}
    {r : ExceptionRecord} (hr : r.measure = m) (hm : ∀ c, x.openMap[m] ≠ .tracked c) :
    (x.openContext k rest m r).PoolLawful lane := by
  obtain ⟨hnot, hrest⟩ := List.nodup_cons.mp (hfree ▸ h.freeDistinct)
  have hk : (x.contexts[k]).state = .free := (h.freeExactly k).mp (by simp [hfree])
  have hcontext : (x.openContext k rest m r).contexts[k] = { state := .opened, record := r } :=
    (getElem_set_fin _ k k _).trans (if_pos rfl)
  refine poolLawful_of_moved h (k := k) (st := .opened) (fun c hc => (getElem_set_fin _ k c _).trans (if_neg hc))
    (by rw [hcontext]) hrest h.postedDistinct (fun c => ?_) (fun c => ?_) (fun m' c => ?_) fun c => ?_
  · show c ∈ rest ↔ _
    split
    · next hc => simpa [hc] using hnot
    · next hc => simp [hfree, hc]
  · show c ∈ x.posted ↔ _
    split
    · next hc => simpa [hc] using not_mem_posted h hk nofun
    · rfl
  · rw [hcontext, show (x.openContext k rest m r).openMap[m'] = _ from getElem_set_fin _ m m' _, hr]
    by_cases hm' : m' = m
    · subst hm'
      by_cases hc : c = k
      · simp [hc]
      · simpa [hc, Ne.symm hc] using hm c
    · by_cases hc : c = k
      · simpa [hc, hm'] using not_tracked h hk nofun m'
      · simp [hc, hm']
  · split
    · next hc => simpa [hc] using not_sending h hk nofun
    · rfl

/-- R160: a measure's OPEN context is posted, and its entry becomes none. -/
theorem post_poolLawful {m : Fin 16} {k : Fin 32} (hm : x.openMap[m] = .tracked k) (r : ExceptionRecord) :
    (x.post m k r).PoolLawful lane := by
  have hk := state_of_tracked h hm
  have hnot := not_mem_posted h hk nofun
  have hcontext : (x.post m k r).contexts[k] = { state := .posted, record := r } :=
    (getElem_set_fin _ k k _).trans (if_pos rfl)
  refine poolLawful_of_moved h (k := k) (st := .posted) (fun c hc => (getElem_set_fin _ k c _).trans (if_neg hc))
    (by rw [hcontext]) h.freeDistinct (nodup_append_singleton h.postedDistinct hnot) (fun c => ?_) (fun c => ?_)
    (fun m' c => ?_) fun c => ?_
  · show c ∈ x.free ↔ _
    split
    · next hc => simpa [hc] using not_mem_free h hk nofun
    · rfl
  · show c ∈ x.posted ++ [k] ↔ _
    split
    · next hc => simp [hc]
    · next hc => simp [hc]
  · rw [show (x.post m k r).openMap[m'] = _ from getElem_set_fin _ m m' _]
    by_cases hm' : m' = m
    · by_cases hc : c = k
      · simp [hm', hc]
      · rw [if_pos hm', if_neg hc, hm', hm]
        exact iff_of_false nofun fun hck => hc (Tracking.tracked.inj hck).symm
    · rw [if_neg hm']
      split
      · next hc => exact iff_of_false (fun hck => hm' (tracked_unique h (hc ▸ hck) hm)) (by simp)
      · rfl
  · split
    · next hc => simpa [hc] using not_sending h hk nofun
    · rfl

/-- R166: the law of the pool reads of the lane only which context it sends. -/
theorem poolLawful_of_lane {lane' : Lane} (hlane : ∀ c, lane' = .own (.exception c) ↔ lane = .own (.exception c)) :
    x.PoolLawful lane' :=
  { h with sendingExactly := fun c => (h.sendingExactly c).trans (hlane c).symm }

/-- R166: a context that is neither OPEN before nor after keeps the open map as it stands. -/
theorem openMap_of_not_open {k : Fin 32} {st st' : ContextState} (hk : (x.contexts[k]).state = st) (hst : st ≠ .opened)
    (hst' : st' ≠ .opened) (r : ExceptionRecord) (m : Fin 16) (c : Fin 32) :
    x.openMap[m] = .tracked c ↔ if c = k then st' = .opened ∧ m = r.measure else x.openMap[m] = .tracked c := by
  split
  · next hc => exact iff_of_false (hc ▸ not_tracked h hk hst m) fun hand => hst' hand.1
  · rfl

/-- R166: the head of the posted queue begins to be sent. -/
theorem setSending_poolLawful (hlane : ∀ c, lane ≠ .own (.exception c)) {k : Fin 32} {rest : List (Fin 32)}
    (hposted : x.posted = k :: rest) :
    (({ x with posted := rest } : Ext).setState k .sending).PoolLawful (.own (.exception k)) := by
  obtain ⟨hnot, hrest⟩ := List.nodup_cons.mp (hposted ▸ h.postedDistinct)
  have hk : (x.contexts[k]).state = .posted := (h.postedExactly k).mp (by simp [hposted])
  have hcontext : (({ x with posted := rest } : Ext).setState k .sending).contexts[k] =
      { x.contexts[k] with state := .sending } := (getElem_set_fin _ k k _).trans (if_pos rfl)
  refine poolLawful_of_moved h (k := k) (st := .sending) (fun c hc => (getElem_set_fin _ k c _).trans (if_neg hc))
    (by rw [hcontext]) h.freeDistinct hrest (fun c => ?_) (fun c => ?_)
    (openMap_of_not_open h hk nofun (st' := .sending) nofun _) fun c => ?_
  · show c ∈ x.free ↔ _
    split
    · next hc => simpa [hc] using not_mem_free h hk nofun
    · rfl
  · show c ∈ rest ↔ _
    split
    · next hc => simpa [hc] using hnot
    · next hc => simp [hposted, hc]
  · split
    · next hc => simp [hc]
    · next hc => exact iff_of_false (fun he => hc (by simpa using he.symm)) (hlane c)

/-- R166: the context being sent becomes FREE when its transmission ends. -/
theorem setFree_poolLawful {k : Fin 32} (hlane : lane = .own (.exception k)) :
    (({ x with free := x.free ++ [k] } : Ext).setState k .free).PoolLawful .idle := by
  have hk : (x.contexts[k]).state = .sending := (h.sendingExactly k).mpr hlane
  have hnot := not_mem_free h hk nofun
  have hcontext : (({ x with free := x.free ++ [k] } : Ext).setState k .free).contexts[k] =
      { x.contexts[k] with state := .free } := (getElem_set_fin _ k k _).trans (if_pos rfl)
  refine poolLawful_of_moved h (k := k) (st := .free) (fun c hc => (getElem_set_fin _ k c _).trans (if_neg hc))
    (by rw [hcontext]) (nodup_append_singleton h.freeDistinct hnot) h.postedDistinct (fun c => ?_) (fun c => ?_)
    (openMap_of_not_open h hk nofun (st' := .free) nofun _) fun c => ?_
  · show c ∈ x.free ++ [k] ↔ _
    split
    · next hc => simp [hc]
    · next hc => simp [hc]
  · show c ∈ x.posted ↔ _
    split
    · next hc => simpa [hc] using not_mem_posted h hk nofun
    · rfl
  · split
    · simp
    · next hc => exact iff_of_false nofun fun he => hc (by simpa [hlane] using he.symm)

theorem openCount_poolLawful (n : Nat) : ({ x with openCount := n } : Ext).PoolLawful lane :=
  poolLawful_of_eq h rfl rfl rfl rfl

/-- R165: the truncation of one measure. -/
theorem truncateOne_poolLawful (c : ConfigRecord) (m : Fin 16) : (x.truncateOne c m).PoolLawful lane := by
  unfold Ext.truncateOne
  split
  · exact h
  · next k hk => exact post_poolLawful h hk _
  · next u hu => exact setTracking_poolLawful h (by simp [hu]) nofun

/-- R165: every open exceedance ended. -/
theorem truncate_poolLawful (c : ConfigRecord) : (x.truncate c).PoolLawful lane := by
  have hfold : ∀ (ms : List (Fin 16)) (y : Ext), y.PoolLawful lane → (ms.foldl (Ext.truncateOne c) y).PoolLawful lane := by
    intro ms
    induction ms with
    | nil => exact fun _ hy => hy
    | cons m ms ih => exact fun y hy => ih _ (truncateOne_poolLawful hy c m)
  exact openCount_poolLawful (hfold (List.finRange 16) x h) 0

end

/-! ### The pool across the notices of a row (R153) -/

/-- What one notice of measure `m` leaves: a lawful pool, the other measures' entries, and the entry of `m` none or not. -/
structure Ext.Tracks (x y : Ext) (lane : Lane) (m : Fin 16) (tracked : Bool) : Prop where
  pool : y.PoolLawful lane
  entry : y.openMap[m] ≠ .none ↔ tracked = true
  others : ∀ m', m' ≠ m → y.openMap[m'] = x.openMap[m']

theorem opened_tracks {t : Tracker} {lane : Lane} (h : t.ext.PoolLawful lane) {m : Fin 16} (hm : t.ext.openMap[m] = .none)
    (run : PendingRun) (level : Nat) (row : RowRef) (epoch : BitVec 8) (speed : Nat) :
    t.ext.Tracks (t.opened m run level row epoch speed).ext lane m true := by
  cases hf : t.ext.free with
  | nil =>
    rw [opened_of_no_free hf]
    refine ⟨poolLawful_of_eq (setTracking_poolLawful h (m := m) (by simp [hm])
      (e := .untracked { openUntracked run with alerted := decide (level = 3) }) nofun) rfl rfl rfl rfl, ?_, ?_⟩
    · simp [Ext.openWithout]
    · exact fun m' hm' => (getElem_set_fin _ m m' _).trans (if_neg hm')
  | cons k rest =>
    rw [opened_of_free hf]
    refine ⟨openContext_poolLawful h hf rfl (by simp [hm]), ?_, ?_⟩
    · simp [Ext.openContext]
    · exact fun m' hm' => (getElem_set_fin _ m m' _).trans (if_neg hm')

theorem followed_tracks {t : Tracker} {lane : Lane} (h : t.ext.PoolLawful lane) {m : Fin 16}
    (hm : t.ext.openMap[m] ≠ .none) (row : RowRef) (epoch : BitVec 8) (valid : Bool) (a : Nat) (v : Int) (sat low : Bool)
    (speed level : Nat) :
    t.ext.Tracks (t.followed m row epoch valid a v sat low speed level).ext lane m true := by
  cases he : t.ext.openMap[m] with
  | none => exact absurd he hm
  | tracked k =>
    rw [followed_of_tracked he]
    refine ⟨?_, ?_, fun _ _ => rfl⟩
    · dsimp only
      exact updateRecord_poolLawful h rfl
    · exact iff_of_true hm rfl
  | untracked u =>
    rw [followed_of_untracked he]
    refine ⟨setTracking_poolLawful h (by simp [he]) nofun, ?_, fun m' hm' => ?_⟩
    · rw [openMap_setTracking, if_pos rfl]
      simp
    · rw [openMap_setTracking, if_neg hm']

theorem closed_tracks {x : Ext} {lane : Lane} (h : x.PoolLawful lane) {m : Fin 16} (hm : x.openMap[m] ≠ .none)
    (c : ConfigRecord) (cause : CloseCause) (endRow : RowRef) : x.Tracks (x.closed c m cause endRow) lane m false := by
  cases he : x.openMap[m] with
  | none => exact absurd he hm
  | tracked k =>
    rw [closed_of_tracked he]
    have hring : (x.addStart m cause (x.contexts[k]).record.ringStart).PoolLawful lane := poolLawful_of_eq h rfl rfl rfl rfl
    refine ⟨post_poolLawful hring he _, ?_, fun m' hm' => ?_⟩
    · simp [Ext.closeTracked, Ext.post]
    · exact (getElem_set_fin _ m m' _).trans (if_neg hm')
  | untracked u =>
    rw [closed_of_untracked he]
    have hring : (x.addStart m cause { position := u.start.position, epoch := u.startEpoch }).PoolLawful lane :=
      poolLawful_of_eq h rfl rfl rfl rfl
    refine ⟨setTracking_poolLawful hring (by simp [Ext.addStart, he]) nofun, ?_, fun m' hm' => ?_⟩
    · rw [Ext.closeUntracked, openMap_setTracking, if_pos rfl]
      simp
    · rw [Ext.closeUntracked, openMap_setTracking, if_neg hm']
      rfl

theorem Ext.Tracks.trans {x y z : Ext} {lane : Lane} {m : Fin 16} {b b' : Bool} (h : x.Tracks y lane m b)
    (h' : y.Tracks z lane m b') : x.Tracks z lane m b' :=
  ⟨h'.pool, h'.entry, fun m' hm' => (h'.others m' hm').trans (h.others m' hm')⟩

/-- R153: EXT with the notices of one measure taken. -/
theorem chain_tracks {m : Fin 16} {before after : Bool} {ns : List Notice} (hns : NoticeChain m before ns after)
    (c : ConfigRecord) {lane : Lane} {t : Tracker} (h : t.ext.PoolLawful lane)
    (hm : t.ext.openMap[m] ≠ .none ↔ before = true) :
    t.ext.Tracks (ns.foldl (fun t n => t.take c n) t).ext lane m after := by
  induction hns generalizing t with
  | nil b => exact ⟨h, hm, fun _ _ => rfl⟩
  | opened run level row epoch speed _ ih =>
    have hone := opened_tracks h (by simpa using hm) run level row epoch speed
    exact hone.trans (ih hone.pool hone.entry)
  | row row epoch valid a v sat low speed level _ ih =>
    have hone := followed_tracks h (hm.mpr rfl) row epoch valid a v sat low speed level
    exact hone.trans (ih hone.pool hone.entry)
  | closed cause endRow level _ ih =>
    have hone := closed_tracks h (hm.mpr rfl) c cause endRow
    exact hone.trans (ih (t := { t with ext := t.ext.closed c m cause endRow }) hone.pool hone.entry)

/-- R153: EXT with the notices of these measures taken, measure by measure. -/
theorem notices_track {ms : List (Fin 16)} (hms : ms.Nodup) (c : ConfigRecord) {lane : Lane}
    {before after : Fin 16 → Bool} {ns : Fin 16 → List Notice} (hns : ∀ m, NoticeChain m (before m) (ns m) (after m))
    {t : Tracker} (h : t.ext.PoolLawful lane) (hm : ∀ m ∈ ms, t.ext.openMap[m] ≠ .none ↔ before m = true) :
    let u := (ms.flatMap ns).foldl (fun t n => t.take c n) t
    u.ext.PoolLawful lane ∧ (∀ m ∈ ms, u.ext.openMap[m] ≠ .none ↔ after m = true) ∧
      ∀ m, m ∉ ms → u.ext.openMap[m] = t.ext.openMap[m] := by
  induction ms generalizing t with
  | nil => exact ⟨h, by simp, fun _ _ => rfl⟩
  | cons m ms ih =>
    obtain ⟨hnot, hms⟩ := List.nodup_cons.mp hms
    have hone := chain_tracks (hns m) c h (hm m (by simp))
    have hrest : ∀ m' ∈ ms, ((ns m).foldl (fun t n => t.take c n) t).ext.openMap[m'] ≠ .none ↔ before m' = true :=
      fun m' hm' => by
        rw [hone.others m' (ne_of_mem_of_not_mem hm' hnot)]
        exact hm m' (by simp [hm'])
    obtain ⟨hpool, hin, hout⟩ := ih hms hone.pool hrest
    simp only [List.flatMap_cons, List.foldl_append]
    refine ⟨hpool, fun m' hm' => ?_, fun m' hm' => ?_⟩
    · rcases List.mem_cons.mp hm' with rfl | hm'
      · rw [hout m' hnot]
        exact hone.entry
      · exact hin m' hm'
    · obtain ⟨hne, hnin⟩ := not_or.mp (List.mem_cons.not.mp hm')
      rw [hout m' hnin, hone.others m' hne]

/-! ### Detectors and open map together -/

/-- R134, R153: a row in MEASURING keeps detectors, contexts and open map in agreement. -/
theorem takeRow_tracking {exd : Exd} {t : Tracker} {lane : Lane} (hd : ∀ m : Fin 16, (exd.detectors[m]).Lawful true)
    (h : t.ext.PoolLawful lane) (hm : ∀ m : Fin 16, t.ext.openMap[m] = .none ↔ (exd.detectors[m]).mode ≠ .active)
    (measures : Vector MeasureEntry 16) (r : Row) (c : ConfigRecord) :
    (∀ m : Fin 16, ((exd.takeRow measures r).detectors[m]).Lawful true) ∧
      (t.takeRow c (exd.rowNotices measures r) r.index).ext.PoolLawful lane ∧
      ∀ m : Fin 16, (t.takeRow c (exd.rowNotices measures r) r.index).ext.openMap[m] = .none ↔
        ((exd.takeRow measures r).detectors[m]).mode ≠ .active := by
  have hdetector : ∀ m : Fin 16, (exd.takeRow measures r).detectors[m] = (exd.judge measures r m).1 := fun m =>
    Vector.getElem_ofFn ..
  have hjudge : ∀ m : Fin 16, Judgement m (decide ((exd.detectors[m]).mode = .active)) (exd.judge measures r m) :=
    fun m => judge_judgement (hd m) _
  obtain ⟨hpool, hin, _⟩ := notices_track (List.nodup_finRange 16) c (ns := fun m => (exd.judge measures r m).2)
    (fun m => (hjudge m).chain) h fun m _ => by simpa using (hm m).not
  refine ⟨fun m => ?_, poolLawful_of_eq hpool rfl rfl rfl rfl, fun m => ?_⟩
  · rw [hdetector]
    exact (hjudge m).lawful
  · rw [hdetector]
    rw [← not_iff_not]
    exact (hin m (List.mem_finRange m)).trans (by simp)

theorem lawful_of_measuring {d : Detector} {b : Bool} (hb : b = true) (h : d.Lawful true) : d.Lawful b := hb ▸ h

theorem lawful_reset {d : Detector} {b b' : Bool} (h : d.Lawful b) : d.reset.Lawful b' := by
  unfold Detector.reset
  split
  · next hm =>
    exact ⟨fun ha => absurd (hm.symm.trans ha) nofun, h.inactive, h.rise, fun hq => absurd (hm.symm.trans hq) nofun,
      fun _ => .inr hm⟩
  · exact cleared_lawful .quiet nofun b' fun _ => .inl rfl

theorem mode_reset (d : Detector) : d.reset.mode ≠ .active := by
  unfold Detector.reset
  split
  · next hm => simp [hm]
  · nofun

theorem detectors_resetDetectors (x : Exd) (m : Fin 16) : (x.resetDetectors.detectors[m]) = (x.detectors[m]).reset :=
  Vector.getElem_ofFn ..

/-- The parts that the agreement of detectors, contexts and open map reads. -/
def trackingParts : List Part := [.detectors, .ext, .lane, .runState]

theorem readsOnly_trackingLawful : ReadsOnly trackingParts State.TrackingLawful := by
  intro s t h hs
  have hd : t.exd.detectors = s.exd.detectors := h .detectors (by simp [trackingParts])
  have hx : t.ext = s.ext := h .ext (by simp [trackingParts])
  have hl : t.ltx.lane = s.ltx.lane := h .lane (by simp [trackingParts])
  have hr : t.cmu.runState = s.cmu.runState := h .runState (by simp [trackingParts])
  refine ⟨fun m => ?_, ?_, fun m => ?_⟩
  · rw [hd, State.measuring, hr]
    exact hs.detectors m
  · rw [hx, hl]
    exact hs.pool
  · rw [hx, hd]
    exact hs.entries m

/-- R29, R30, R148, R165: detectors reset and exceptions truncated agree in every run state. -/
theorem endExceedances_tracking {s : State} {b : Bool} (hd : ∀ m : Fin 16, (s.exd.detectors[m]).Lawful b)
    (hpool : s.ext.PoolLawful s.ltx.lane) : s.endExceedances.TrackingLawful where
  detectors m := by
    rw [show s.endExceedances.exd = s.exd.resetDetectors from rfl, detectors_resetDetectors]
    exact lawful_reset (hd m)
  pool := truncate_poolLawful hpool s.cmu.config
  entries m := by
    rw [show s.endExceedances.exd = s.exd.resetDetectors from rfl, detectors_resetDetectors]
    exact iff_of_true (openMap_truncate s.ext s.cmu.config m) (mode_reset _)

theorem closeRowBlock_tracking {s : State} (h : s.TrackingLawful) : s.closeRowBlock.TrackingLawful := by
  obtain ⟨_, _, hc⟩ := closeRowBlock_frame s
  exact readsOnly_trackingLawful s _ (fun p hp => by rw [hc]; fin_cases hp <;> rfl) h

theorem stop_tracking (e : CommandEntry) (s : State) (h : s.TrackingLawful) : (stop e s).1.TrackingLawful := by
  unfold stop
  split
  · exact h
  · refine closeRowBlock_tracking ?_
    have hend : (s.withCmu (s.cmu.setRunState .stopped)).endExceedances.TrackingLawful :=
      endExceedances_tracking (s := s.withCmu (s.cmu.setRunState .stopped)) h.detectors h.pool
    obtain ⟨_, _, _, hseg⟩ := stopSegment_frame (s.withCmu (s.cmu.setRunState .stopped)).endExceedances
    exact readsOnly_trackingLawful _ _ (fun p hp => by rw [hseg]; fin_cases hp <;> rfl) hend

theorem suspendRun_tracking {s : State} (h : s.TrackingLawful) (cause : SuspendCause) :
    (s.suspendRun cause).TrackingLawful :=
  closeRowBlock_tracking
    (endExceedances_tracking (s := s.withCmu (s.cmu.setRunState (.suspended cause))) h.detectors h.pool)

theorem takeReverseRequest_tracking {s : State} (h : s.TrackingLawful) : s.takeReverseRequest.TrackingLawful := by
  unfold State.takeReverseRequest
  split
  · exact h
  · dsimp only
    have hlinks : (s.withLinks { s.links with reverseRequest := none }).TrackingLawful := ⟨h.detectors, h.pool, h.entries⟩
    split
    · obtain ⟨_, _, hemit⟩ := emitLocation_frame
        ((s.withLinks { s.links with reverseRequest := none }).suspendRun .reverse) .reverseSuspend
        ((s.withLinks { s.links with reverseRequest := none }).suspendRun .reverse).odo.measured
      rw [State.reverseSuspendRecord, hemit]
      exact readsOnly_trackingLawful _ _ (fun p hp => by fin_cases hp <;> rfl) (suspendRun_tracking hlinks .reverse)
    · exact hlinks

/-- R32: a resumed run begins with detectors that are lawful outside MEASURING. -/
theorem lawful_measuring {d : Detector} {b : Bool} (h : d.Lawful b) : d.Lawful true :=
  ⟨h.active, h.inactive, h.rise, h.run, nofun⟩

theorem resume_tracking (e : CommandEntry) (s : State) (h : s.TrackingLawful) : (resume e s).1.TrackingLawful := by
  obtain ⟨_, _, _, hr⟩ := resume_frame e s
  rw [hr]
  exact ⟨fun m => lawful_measuring (h.detectors m), h.pool, h.entries⟩

/-- R28: START comes from STOPPED, where no detector is ACTIVE and so no entry is tracked. -/
theorem startCommand_tracking (e : CommandEntry) (s : State) (hstopped : onlyStopped s.cmu.runState = true)
    (h : s.TrackingLawful) : (startCommand e s).1.TrackingLawful := by
  have hmeasuring : s.measuring = false := by
    rw [State.measuring, beq_iff_eq.mp hstopped]
    rfl
  have hentry : ∀ m : Fin 16, s.ext.openMap[m] = .none := fun m => (h.entries m).mpr fun ha => by
    rcases (h.detectors m).outside hmeasuring with hq | hq <;> exact absurd (ha.symm.trans hq) nofun
  obtain ⟨_, _, _, _, hs⟩ := startCommand_frame e s
  have hexd : (startCommand e s).1.exd = s.exd.resetDetectors := by rw [hs]
  have hext : (startCommand e s).1.ext = s.ext.startNotice := by rw [hs]
  have hlane : (startCommand e s).1.ltx.lane = s.ltx.lane := by rw [hs]; rfl
  refine ⟨fun m => ?_, ?_, fun m => ?_⟩
  · rw [hexd, detectors_resetDetectors]
    exact lawful_reset (h.detectors m)
  · rw [hext, hlane]
    exact poolLawful_of_eq h.pool rfl rfl rfl rfl
  · rw [hexd, hext, detectors_resetDetectors]
    exact iff_of_true (hentry m) (mode_reset _)

theorem withTracker_tracking {s : State} {exd : Exd} {t : Tracker}
    (hd : ∀ m : Fin 16, (exd.detectors[m]).Lawful s.measuring) (hpool : t.ext.PoolLawful s.ltx.lane)
    (hentry : ∀ m : Fin 16, t.ext.openMap[m] = .none ↔ (exd.detectors[m]).mode ≠ .active) :
    ((s.withExd exd).withTracker t).TrackingLawful :=
  ⟨hd, hpool, hentry⟩

theorem rowEvent_tracking {s : State} (h : s.TrackingLawful) : s.rowEvent.TrackingLawful := by
  unfold State.rowEvent
  split
  · next r _ =>
    dsimp only
    split
    · next hk =>
      have hmeasuring : s.measuring = true := (Bool.and_eq_true_iff.mp hk).1
      obtain ⟨hd, hpool, hentry⟩ := takeRow_tracking (t := s.tracker) (fun m => hmeasuring ▸ h.detectors m) h.pool h.entries
        s.mse.measures r s.cmu.config
      exact withTracker_tracking (s := s.withLinks s.links.takenByExd) (fun m => lawful_of_measuring hmeasuring (hd m)) hpool hentry
    · exact ⟨h.detectors, h.pool, h.entries⟩
  · exact h

theorem exdGap_tracking {s : State} (h : s.TrackingLawful) : s.exdGap.TrackingLawful := by
  unfold State.exdGap
  split
  · dsimp only
    split
    · exact endExceedances_tracking (s := s.withLinks s.links.takenByExd) h.detectors h.pool
    · exact ⟨h.detectors, h.pool, h.entries⟩
  · exact h

/-! ### Resets, arrivals and transmissions -/

theorem afterReset_poolLawful : Ext.afterReset.PoolLawful .idle := by
  have hstate : ∀ c : Fin 32, (Ext.afterReset.contexts[c]).state = .free := fun c => by simp [Ext.afterReset]
  have hmap : ∀ m : Fin 16, Ext.afterReset.openMap[m] = .none := fun m => by simp [Ext.afterReset]
  exact {
    freeDistinct := List.nodup_finRange 32
    freeExactly := fun c => iff_of_true (List.mem_finRange c) (hstate c)
    postedDistinct := List.nodup_nil
    postedExactly := fun c => iff_of_false (List.not_mem_nil) (by rw [hstate]; nofun)
    openExactly := fun c => iff_of_false (by rw [hstate]; nofun) fun ⟨m, hm⟩ => absurd (hm.symm.trans (hmap m)) nofun
    openMeasure := fun m c hc => absurd (hc.symm.trans (hmap m)) nofun
    sendingExactly := fun c => iff_of_false (by rw [hstate]; nofun) nofun }

/-- R149, R150: after every reset the detectors are cleared and nothing is tracked. -/
theorem tracking_of_reset {s : State} (hext : s.ext = .afterReset) (hlane : s.ltx.lane = .idle)
    (hd : ∀ m : Fin 16, s.exd.detectors[m] = .cleared .disabled ∨ s.exd.detectors[m] = .cleared .quiet) :
    s.TrackingLawful where
  detectors m := by
    rcases hd m with h | h
    · rw [h]
      exact cleared_lawful .disabled nofun _ fun _ => .inr rfl
    · rw [h]
      exact cleared_lawful .quiet nofun _ fun _ => .inl rfl
  pool := by
    rw [hext, hlane]
    exact afterReset_poolLawful
  entries m := by
    refine iff_of_true (by simp [hext, Ext.afterReset]) ?_
    rcases hd m with h | h <;> rw [h] <;> nofun

theorem reset_detectors (m : Fin 16) : Exd.cold.detectors[m] = .cleared .disabled := by simp [Exd.cold]

theorem commandedReset_tracking (s : State) (k : ResetKind) : (s.commandedReset k).TrackingLawful := by
  refine tracking_of_reset rfl rfl fun m => ?_
  cases k with
  | cold => exact .inl (reset_detectors m)
  | warm =>
    have hd : (s.commandedReset .warm).exd.detectors[m] = .cleared (if s.mse.measures[m] = .disabled then .disabled else .quiet) :=
      Vector.getElem_ofFn ..
    rw [hd]
    split
    · exact .inl rfl
    · exact .inr rfl

end Sys2Proof.Machine


/-! SUPPORT. The lane across the arrivals and the agreement of detectors, contexts and open map across every command (R133,
R150, R152, R154, R166, R190). -/

namespace Sys2Proof.Machine

/-! ### The own frame on the lane across the arrivals (R190) -/

/-- R190: the lane carries the same own frame, if any, in two states: an arrival moves it between IDLE and CUT-THROUGH only. -/
def State.SameOwn (s t : State) : Prop := ∀ f, t.ltx.lane = .own f ↔ s.ltx.lane = .own f

theorem sameOwn_of_lane {s t : State} (h : t.ltx.lane = s.ltx.lane) : s.SameOwn t := fun f => by rw [h]

theorem sameOwn_of_not_own {s t : State} (hs : ∀ f, s.ltx.lane ≠ .own f) (ht : ∀ f, t.ltx.lane ≠ .own f) : s.SameOwn t :=
  fun f => iff_of_false (ht f) (hs f)

theorem sameOwn_ite {s t u : State} (c : Prop) [Decidable c] (ht : s.SameOwn t) (hu : s.SameOwn u) :
    s.SameOwn (if c then t else u) := by
  split
  · exact ht
  · exact hu

theorem dropNotice_sameOwn (s : State) : s.SameOwn s.dropNotice := by
  by_cases h : s.ltx.lane = .cutThrough
  · rw [dropNotice_of_cutThrough h]
    exact sameOwn_of_not_own (by simp [h]) nofun
  · rw [dropNotice_of_stored h]
    exact sameOwn_of_lane rfl

theorem endNotice_sameOwn (s : State) : s.SameOwn s.endNotice := by
  by_cases h : s.ltx.lane = .cutThrough
  · rw [endNotice_of_cutThrough h]
    exact sameOwn_of_not_own (by simp [h]) nofun
  · rw [endNotice_of_stored h]
    obtain ⟨_, _, _, hq⟩ := queueStored_frame s.ltx
    exact sameOwn_of_lane (by rw [hq])

theorem discardFrame_sameOwn (s : State) (f : Assembly) : s.SameOwn (s.discardFrame f) := by
  unfold State.discardFrame
  split
  · exact dropNotice_sameOwn s
  · exact sameOwn_of_lane rfl

theorem frameStartNotice_sameOwn (s : State) (head : List Octet) : s.SameOwn (s.frameStartNotice head) := by
  by_cases h : s.ltx.cutsThrough = true
  · rw [frameStartNotice_of_cutsThrough h]
    have hidle := ((cutsThrough_iff s.ltx).mp h).1
    exact sameOwn_of_not_own (by simp [hidle]) nofun
  · rw [frameStartNotice_of_not_cutsThrough h]
    exact sameOwn_of_lane rfl

theorem handOctet_sameOwn (s : State) (b : Octet) : s.SameOwn (s.handOctet b) := by
  unfold State.handOctet
  split
  · exact sameOwn_of_lane rfl
  · exact sameOwn_of_lane rfl

theorem headerOctet_sameOwn (s : State) (f : Assembly) (b : Octet) : s.SameOwn (s.headerOctet f b) := by
  unfold State.headerOctet
  dsimp only
  split
  · exact sameOwn_of_lane rfl
  · split
    · exact sameOwn_of_lane rfl
    · split
      · exact frameStartNotice_sameOwn (s.withLrx _) _
      · exact sameOwn_of_lane rfl

theorem bodyOctet_sameOwn (s : State) (f : Assembly) (h : Header) (b : Octet) : s.SameOwn (s.bodyOctet f h b) := by
  unfold State.bodyOctet
  dsimp only
  split
  · exact discardFrame_sameOwn (s.withLrx _) f
  · exact sameOwn_ite _ (handOctet_sameOwn (s.withLrx _) b) (sameOwn_of_lane rfl)

theorem arriveOctet_sameOwn (s : State) (b : Octet) : s.SameOwn (s.arriveOctet b) := by
  unfold State.arriveOctet
  split
  · exact sameOwn_of_lane rfl
  · exact sameOwn_of_lane rfl
  · split
    · exact headerOctet_sameOwn s _ b
    · exact bodyOctet_sameOwn s _ _ b

theorem arriveIdle_sameOwn (s : State) : s.SameOwn s.arriveIdle := by
  unfold State.arriveIdle
  split
  · exact sameOwn_of_lane rfl
  · exact sameOwn_of_lane rfl
  · exact discardFrame_sameOwn (s.withLrx _) _

theorem arriveStart_sameOwn (s : State) : s.SameOwn s.arriveStart := by
  unfold State.arriveStart
  split
  · exact sameOwn_of_lane rfl
  · exact sameOwn_of_lane rfl
  · exact discardFrame_sameOwn (s.withLrx _) _

theorem arriveAbort_sameOwn (s : State) : s.SameOwn s.arriveAbort := by
  unfold State.arriveAbort
  split
  · exact sameOwn_of_lane rfl
  · exact sameOwn_of_lane rfl
  · exact discardFrame_sameOwn (s.withLrx _) _

theorem judgeFrame_sameOwn (s : State) (f : Assembly) : s.SameOwn (s.judgeFrame f) := by
  unfold State.judgeFrame
  split
  · exact sameOwn_of_lane rfl
  · split
    · exact discardFrame_sameOwn (s.withLrx _) f
    · split
      · rw [goodFrame_eq]
        split
        · exact endNotice_sameOwn s
        · exact sameOwn_of_lane rfl
      · exact discardFrame_sameOwn (s.withLrx _) f

theorem arriveEnd_sameOwn (s : State) : s.SameOwn s.arriveEnd := by
  unfold State.arriveEnd
  split
  · exact sameOwn_of_lane rfl
  · exact sameOwn_of_lane rfl
  · exact judgeFrame_sameOwn s _

theorem loseLock_sameOwn (s : State) : s.SameOwn s.loseLock := by
  rw [loseLock_eq]
  split
  · exact dropNotice_sameOwn s
  · exact sameOwn_of_lane rfl

/-- The arrivals on the inbound data lane and the loss of its lock. -/
def isArrival : Instr → Bool
  | .dataOctet _ | .idle | .start | .endFrame | .abort | .lossOfLock => true
  | _ => false

/-- R190: an arrival leaves an own frame on the lane, and puts none there. -/
theorem arrival_sameOwn {c : Instr} {s t : State} (h : exec c s = .next t) (hc : isArrival c = true) : s.SameOwn t := by
  have hlocked : ∀ {arrival : State → State}, (∀ s : State, s.SameOwn (arrival s)) → s.whileLocked arrival = .next t →
      s.SameOwn t := by
    intro arrival ha ht
    obtain rfl := Host.Outcome.next.inj ht
    split
    · exact ha s
    · exact sameOwn_of_lane rfl
  cases c with
  | dataOctet b => exact hlocked (fun s => arriveOctet_sameOwn s b) h
  | idle => exact hlocked arriveIdle_sameOwn h
  | start => exact hlocked arriveStart_sameOwn h
  | endFrame => exact hlocked arriveEnd_sameOwn h
  | abort => exact hlocked arriveAbort_sameOwn h
  | lossOfLock =>
    obtain rfl := Host.Outcome.next.inj h
    exact loseLock_sameOwn s
  | _ => cases hc

/-! ### Detectors, contexts and the open map across every command -/

theorem arrival_tracking {c : Instr} {s t : State} (h : exec c s = .next t) (hc : isArrival c = true)
    (hs : s.TrackingLawful) : t.TrackingLawful := by
  have hsame : ∀ p ∈ [Part.detectors, .ext, .runState], writes c p = false := by
    intro p hp
    cases c with
    | dataOctet | idle | start | endFrame | abort | lossOfLock => fin_cases hp <;> rfl
    | _ => cases hc
  have hd : t.exd.detectors = s.exd.detectors := exec_untouched (p := .detectors) h (hsame _ (by simp))
  have hx : t.ext = s.ext := exec_untouched (p := .ext) h (hsame _ (by simp))
  have hr : t.cmu.runState = s.cmu.runState := exec_untouched (p := .runState) h (hsame _ (by simp))
  refine ⟨fun m => ?_, ?_, fun m => ?_⟩
  · rw [hd, State.measuring, hr]
    exact hs.detectors m
  · rw [hx]
    exact poolLawful_of_lane hs.pool fun k => arrival_sameOwn h hc _
  · rw [hx, hd]
    exact hs.entries m

theorem nextPosted_eq_some {x : Ext} {c : Fin 32} (h : x.nextPosted = some c) : x.posted = c :: x.posted.tail := by
  unfold Ext.nextPosted at h
  split at h
  · exact (List.cons_head?_tail h).symm
  · exact absurd h nofun

theorem arbiterChoice_tracking {s : State} (hs : s.TrackingLawful) : s.arbiterChoice.TrackingLawful := by
  have hnone : ∀ {lane : Lane} {ltx : Ltx} {outbound : List LaneSymbol}, s.ltx.lane = .idle → ltx.lane = lane →
      (∀ k, lane ≠ .own (.exception k)) → ({ s with ltx := ltx, outbound := outbound } : State).TrackingLawful := by
    intro lane ltx outbound hidle hlane hne
    refine ⟨hs.detectors, ?_, hs.entries⟩
    show s.ext.PoolLawful ltx.lane
    rw [hlane]
    exact poolLawful_of_lane hs.pool fun k => iff_of_false (hne k) (by simp [hidle])
  rcases arbiterChoice_cases s with h | ⟨hidle, ⟨_, _, _, h⟩ | ⟨_, h⟩ | ⟨_, _, _, h⟩ | ⟨_, _, _, h⟩ | ⟨k, hk, h⟩ | ⟨_, _, _, h⟩ |
    ⟨_, _, _, _, _, h⟩⟩
  · rw [h]
    exact hs
  · rw [h]
    exact hnone hidle rfl nofun
  · rw [h]
    exact hnone hidle rfl nofun
  · rw [h]
    exact hnone hidle rfl nofun
  · rw [h]
    exact hnone hidle rfl nofun
  · rw [h]
    exact ⟨hs.detectors, setSending_poolLawful hs.pool (by simp [hidle]) (nextPosted_eq_some hk), hs.entries⟩
  · rw [h]
    exact hnone hidle rfl nofun
  · rw [h]
    exact hnone hidle rfl nofun

theorem transmissionEnd_tracking {s : State} (hs : s.TrackingLawful) : s.transmissionEnd.TrackingLawful := by
  have hidle : ∀ {ltx : Ltx} {outbound : List LaneSymbol}, (∀ k, s.ltx.lane ≠ .own (.exception k)) → ltx.lane = .idle →
      ({ s with ltx := ltx, outbound := outbound } : State).TrackingLawful := by
    intro ltx outbound hne hlane
    refine ⟨hs.detectors, ?_, hs.entries⟩
    show s.ext.PoolLawful ltx.lane
    rw [hlane]
    exact poolLawful_of_lane hs.pool fun k => iff_of_false nofun (hne k)
  unfold State.transmissionEnd
  split
  · exact hs
  · exact hs
  · next hl => exact hidle (by simp [hl]) rfl
  · next f hl =>
    unfold State.completeOwn
    split
    · exact hidle (by simp [hl]) rfl
    · exact hidle (by simp [hl]) rfl
    · exact hidle (by simp [hl]) rfl
    · split
      · exact hidle (by simp [hl]) rfl
      · exact commandedReset_tracking _ _
    · exact ⟨hs.detectors, setFree_poolLawful hs.pool hl, hs.entries⟩
    · exact hidle (by simp [hl]) rfl

/-- R27: a host command whose act is carried out only in the run states that accept it. -/
theorem ReadsOnly.runCommand_accepted {parts : List Part} {P : State → Prop} (hP : ReadsOnly parts P)
    (hparts : (parts.all fun p => !Part.answering.contains p) = true) {row : Instr} {allowed : RunState → Bool}
    {act : CommandEntry → State → State × Reply}
    (hact : ∀ e u, allowed u.cmu.runState = true → P u → P (act e u).1) {s : State} (hs : P s) :
    P (s.runCommand row allowed act) := by
  have hnot : ∀ p ∈ parts, Part.answering.contains p = false := fun p hp => by
    simpa using List.all_eq_true.mp hparts p hp
  rcases runCommand_outcome s row allowed act with hsame | ⟨e, _, ha, h⟩
  · exact hP _ _ (fun p hp => hsame p (hnot p hp)) hs
  · rw [h]
    refine hP _ _ (fun p hp => answer_same (hnot p hp) _ _ _) (hact e _ ha ?_)
    exact hP _ _ (fun p hp => dropCommand_same (hnot p hp) s) hs

/-- R133, R150, R152, R154: every command keeps detectors, contexts and open map in agreement. -/
theorem exec_tracking (c : Instr) (s t : State) (hs : s.TrackingLawful) (h : exec c s = .next t) : t.TrackingLawful := by
  cases c with
  | dataOctet | idle | start | endFrame | abort | lossOfLock => exact arrival_tracking h rfl hs
  | powerOnReset straps =>
    obtain rfl := Host.Outcome.next.inj h
    exact tracking_of_reset rfl rfl fun m => .inl (reset_detectors m)
  | startCommand =>
    obtain rfl := Host.Outcome.next.inj h
    have hrun := readsOnly_trackingLawful.runCommand_accepted rfl startCommand_tracking hs (row := .startCommand)
    exact readsOnly_trackingLawful _ _ (fun p hp => placeAborted_same (by rintro rfl; simp [trackingParts] at hp)
      (by rintro rfl; simp [trackingParts] at hp) _ s) hrun
  | stop =>
    obtain rfl := Host.Outcome.next.inj h
    exact readsOnly_trackingLawful.runCommand rfl stop_tracking hs
  | suspend =>
    obtain rfl := Host.Outcome.next.inj h
    exact readsOnly_trackingLawful.runCommand rfl (fun _ _ hu => suspendRun_tracking hu .command) hs
  | resume =>
    obtain rfl := Host.Outcome.next.inj h
    exact readsOnly_trackingLawful.runCommand rfl resume_tracking hs
  | reverseLimitRequest =>
    obtain rfl := Host.Outcome.next.inj h
    exact takeReverseRequest_tracking hs
  | rowEvent =>
    obtain rfl := Host.Outcome.next.inj h
    exact rowEvent_tracking hs
  | exdGapNotice =>
    obtain rfl := Host.Outcome.next.inj h
    exact exdGap_tracking hs
  | arbiterChoice =>
    obtain rfl := Host.Outcome.next.inj h
    exact arbiterChoice_tracking hs
  | transmissionEnd =>
    obtain rfl := Host.Outcome.next.inj h
    exact transmissionEnd_tracking hs
  | _ => exact readsOnly_trackingLawful.exec_untouched h rfl hs

end Sys2Proof.Machine

/-! The statement about detectors, contexts and the open map. -/

namespace Sys2Proof.Proofs

open Sys2Proof Sys2Proof.Machine

/-- Settles O57: the notices of a row lead each measure's entry along with its detector's mode, and every other command moves a
context, the lane and the detectors together. -/
theorem detectorsContextsAndTheOpenMapStayInStep : Obligations.DetectorsContextsAndTheOpenMapStayInStep :=
  fun _ _ hs h => readsOnly_trackingLawful.step rfl exec_tracking hs h

end Sys2Proof.Proofs


/-! SUPPORT. The check register of a frame followed by its check word (R3), and the rounding functions of the conventions. -/

namespace Sys2Proof.Machine

/-! ### The check word (R3) -/

/-- R3: a register that has taken `k` of its own bits, most significant first, has shifted them out. -/
theorem checkBit_own (c : Half) (k : Nat) (hk : k < 16) : checkBit (c <<< k) (c.getLsbD (15 - k)) = c <<< (k + 1) := by
  have hmsb : (c <<< k).msb = c.getLsbD (15 - k) := by
    rw [BitVec.msb_eq_getLsbD_last, BitVec.getLsbD_shiftLeft]
    simp [show ¬15 < k by omega]
  rw [checkBit, hmsb, bne_self_eq_false, if_neg Bool.false_ne_true, BitVec.shiftLeft_add]

/-- R3: eight of the register's own bits, taken as an octet. -/
theorem checkOctet_own (c : Half) (k : Nat) (o : Octet) (hk : k ≤ 8)
    (ho : ∀ i < 8, o.getLsbD i = c.getLsbD (8 - k + i)) : checkOctet (c <<< k) o = c <<< (k + 8) := by
  have hbit : ∀ j < 8, checkBit (c <<< (k + j)) (o.getLsbD (7 - j)) = c <<< (k + j + 1) := fun j hj => by
    rw [ho _ (by omega), show 8 - k + (7 - j) = 15 - (k + j) by omega]
    exact checkBit_own c (k + j) (by omega)
  have h0 := hbit 0 (by omega)
  have h1 := hbit 1 (by omega)
  have h2 := hbit 2 (by omega)
  have h3 := hbit 3 (by omega)
  have h4 := hbit 4 (by omega)
  have h5 := hbit 5 (by omega)
  have h6 := hbit 6 (by omega)
  have h7 := hbit 7 (by omega)
  simp only [Nat.add_zero, Nat.sub_zero, Nat.reduceSub, Nat.add_assoc, Nat.reduceAdd] at h0 h1 h2 h3 h4 h5 h6 h7
  simp only [checkOctet, List.foldl_cons, List.foldl_nil, h0, h1, h2, h3, h4, h5, h6, h7]

/-- R196: the bits of an octet of a number written high octet first. -/
theorem getLsbD_octet (c : Half) (k i : Nat) (hi : i < 8) :
    (BitVec.ofInt 8 ((c.toNat : Int) / 256 ^ k)).getLsbD i = c.getLsbD (8 * k + i) := by
  have hcast : ((c.toNat : Int) / 256 ^ k) = ((c.toNat / 256 ^ k : Nat) : Int) := by push_cast; rfl
  have hpow : (256 : Nat) ^ k = 2 ^ (8 * k) := by rw [pow_mul]; rfl
  rw [hcast, BitVec.ofInt_natCast, BitVec.getLsbD_ofNat, BitVec.getLsbD, hpow, Nat.testBit_div_two_pow, Nat.add_comm i]
  simp [hi]

/-- R3: a register that takes its own two octets is left at 0. -/
theorem foldl_checkOctet_own (c : Half) : (octetsOf 2 c.toNat).foldl checkOctet c = 0 := by
  have hfirst := checkOctet_own c 0 (BitVec.ofInt 8 ((c.toNat : Int) / 256 ^ 1)) (by omega) fun i hi =>
    getLsbD_octet c 1 i hi
  have hsecond := checkOctet_own c 8 (BitVec.ofInt 8 ((c.toNat : Int) / 256 ^ 0)) (by omega) fun i hi =>
    getLsbD_octet c 0 i hi
  rw [BitVec.shiftLeft_zero, Nat.zero_add] at hfirst
  have hlist : octetsOf 2 c.toNat =
      [BitVec.ofInt 8 ((c.toNat : Int) / 256 ^ 1), BitVec.ofInt 8 ((c.toNat : Int) / 256 ^ 0)] := rfl
  rw [hlist, List.foldl_cons, List.foldl_cons, List.foldl_nil, hfirst, hsecond]
  exact BitVec.shiftLeft_eq_zero (by omega)

/-! ### Rounding -/

/-- "nearest" of a number that is not below 0: the quotient of twice the number and half a divisor more. -/
theorem nearest_of_nonneg {a b : Int} (ha : 0 ≤ a) (hb : 0 < b) :
    -b ≤ 2 * (a - b * nearest a b) ∧ 2 * (a - b * nearest a b) < b ∧ 0 ≤ b * nearest a b := by
  rw [nearest, if_pos ha]
  have hq := Int.mul_ediv_add_emod (2 * a + b) (2 * b)
  have hlow := Int.emod_nonneg (2 * a + b) (show 2 * b ≠ 0 by omega)
  have hhigh := Int.emod_lt_of_pos (2 * a + b) (show 0 < 2 * b by omega)
  have hnonneg : 0 ≤ b * ((2 * a + b) / (2 * b)) := mul_nonneg hb.le (Int.ediv_nonneg (by omega) (by omega))
  rw [mul_assoc] at hq
  omega

/-- "nearest" rounds the halves of a negative number away from zero too. -/
theorem nearest_neg {a : Int} (ha : a < 0) (b : Int) : nearest a b = -nearest (-a) b := by
  rw [nearest, nearest, if_neg (by omega), if_pos (by omega)]
  congr 2
  ring

theorem nearest_spec (a : Int) {b : Int} (hb : 0 < b) :
    2 * |a - b * nearest a b| ≤ b ∧ (2 * |a - b * nearest a b| = b → |a| < |b * nearest a b|) := by
  rcases le_or_gt 0 a with ha | ha
  · obtain ⟨hlow, hhigh, hnonneg⟩ := nearest_of_nonneg ha hb
    rw [abs_of_nonneg ha, abs_of_nonneg hnonneg]
    rcases abs_cases (a - b * nearest a b) with ⟨h, _⟩ | ⟨h, _⟩ <;> rw [h] <;> omega
  · obtain ⟨hlow, hhigh, hnonneg⟩ := nearest_of_nonneg (show 0 ≤ -a by omega) hb
    rw [nearest_neg ha, mul_neg, abs_neg, abs_of_neg ha, abs_of_nonneg hnonneg]
    rcases abs_cases (a - -(b * nearest (-a) b)) with ⟨h, _⟩ | ⟨h, _⟩ <;> rw [h] <;> omega

/-- "trunc" of a number that is not below 0 rounds down. -/
theorem trunc_of_nonneg {a b : Int} (ha : 0 ≤ a) (hb : 0 < b) :
    0 ≤ b * trunc a b ∧ b * trunc a b ≤ a ∧ a - b * trunc a b < b ∧ 0 ≤ a * trunc a b := by
  have hdiv : b * trunc a b + Int.tmod a b = a := Int.mul_tdiv_add_tmod a b
  have hlow : 0 ≤ Int.tmod a b := Int.tmod_nonneg b ha
  have hhigh : Int.tmod a b < b := Int.tmod_lt_of_pos a hb
  have hq : 0 ≤ trunc a b := Int.tdiv_nonneg ha hb.le
  exact ⟨mul_nonneg hb.le hq, by omega, by omega, mul_nonneg ha hq⟩

theorem trunc_spec (a : Int) {b : Int} (hb : 0 < b) :
    |b * trunc a b| ≤ |a| ∧ |a - b * trunc a b| < b ∧ 0 ≤ a * trunc a b := by
  rcases le_or_gt 0 a with ha | ha
  · obtain ⟨hnonneg, hle, hlt, hsign⟩ := trunc_of_nonneg ha hb
    rw [abs_of_nonneg hnonneg, abs_of_nonneg ha, abs_of_nonneg (by omega)]
    exact ⟨hle, hlt, hsign⟩
  · obtain ⟨hnonneg, hle, hlt, hsign⟩ := trunc_of_nonneg (show 0 ≤ -a by omega) hb
    have hneg : trunc a b = -trunc (-a) b := by rw [trunc, trunc, Int.neg_tdiv, neg_neg]
    rw [neg_mul] at hsign
    rw [hneg, mul_neg, mul_neg, abs_neg, abs_of_nonneg hnonneg, abs_of_neg ha, abs_of_nonpos (by omega)]
    exact ⟨hle, by omega, hsign⟩

/-- "isqrt": the bits from `k` down complete a root that is below the square root and within their reach of it. -/
theorem isqrtFrom_spec (k r x : Nat) (hlow : r * r ≤ x) (hhigh : x < (r + 2 ^ (k + 1)) * (r + 2 ^ (k + 1))) :
    isqrtFrom k r x * isqrtFrom k r x ≤ x ∧ x < (isqrtFrom k r x + 1) * (isqrtFrom k r x + 1) := by
  induction k generalizing r with
  | zero =>
    unfold isqrtFrom
    split
    · exact ⟨‹_›, hhigh⟩
    · exact ⟨hlow, by omega⟩
  | succ k ih =>
    unfold isqrtFrom
    split
    · refine ih _ ‹_› ?_
      rwa [add_assoc, ← two_mul, ← pow_succ']
    · exact ih r hlow (by omega)

theorem isqrt_spec (x : Nat) : isqrt x * isqrt x ≤ x ∧ x < (isqrt x + 1) * (isqrt x + 1) := by
  refine isqrtFrom_spec _ 0 x (by omega) ?_
  rw [Nat.zero_add]
  calc x < 2 ^ (Nat.log2 x + 1) := Nat.lt_log2_self
    _ ≤ 2 ^ (Nat.log2 x + 1) * 2 ^ (Nat.log2 x + 1) := Nat.le_mul_self _

theorem clamp_spec {x a b : Int} (h : a ≤ b) :
    a ≤ clamp x a b ∧ clamp x a b ≤ b ∧ (a ≤ x → x ≤ b → clamp x a b = x) ∧ (x < a → clamp x a b = a) ∧
      (b < x → clamp x a b = b) := by
  unfold clamp
  omega

end Sys2Proof.Machine

/-! The statements about the check word and the rounding. -/

namespace Sys2Proof.Proofs

open Sys2Proof Sys2Proof.Machine

/-- Settles O11: the check word's own bits meet themselves at the top of the register and shift out. -/
theorem checkWordClosesItsFrame : Obligations.CheckWordClosesItsFrame := fun os => by
  rw [checkWord, List.foldl_append]
  exact foldl_checkOctet_own (checkWord os)

/-- Settles O24, function by function. -/
theorem roundingFollowsTheManual : Obligations.RoundingFollowsTheManual :=
  ⟨fun a _ hb => nearest_spec a hb, fun a _ hb => trunc_spec a hb, isqrt_spec, fun _ _ _ h => clamp_spec h⟩

end Sys2Proof.Proofs


/-! SUPPORT. The host commands as one family: the run states that accept each, the act of its owning block, and what their
taking and answering does to the command queue and the response queue (R25 to R27, section 2.4). -/

namespace Sys2Proof.Machine

/-! ### The host commands as one family -/

/-- Section 2.4: the run states in which a command of the table is accepted, as `runCommand` tests them. -/
def acceptedBy : Instr → RunState → Bool
  | .startCommand | .setConfig | .writeChannel | .writeParameter | .writeMeasure | .writeSlot => onlyStopped
  | .suspend => onlyMeasuring
  | .resume => onlySuspended
  | _ => anyRunState

/-- Section 2.4: what the owning block of a command does. -/
def actOf : Instr → CommandEntry → State → State × Reply
  | .identify => identify
  | .readStatus => readStatus
  | .resetWarm => requestReset .warm
  | .resetCold => requestReset .cold
  | .startCommand => startCommand
  | .stop => stop
  | .suspend => suspend
  | .resume => resume
  | .setPosition => setPosition
  | .setConfig => setConfig
  | .readConfig => readConfig
  | .setStream => setStream
  | .writeChannel => writeChannel
  | .readChannel => readChannel
  | .writeParameter => writeParameter
  | .readParameter => readParameter
  | .writeMeasure => writeMeasure
  | .readMeasure => readMeasure
  | .rebase => rebase
  | .writeLimits => writeLimits
  | .readLimits => readLimits
  | .writeMark => writeMark
  | .deleteMark => deleteMark
  | .clearMarks => clearMarks
  | .readMark => readMark
  | .appendSection => appendSection
  | .clearSections => clearSections
  | .readSection => readSection
  | .writeSlot => writeSlot
  | .readSlot => readSlot
  | .freeze => freeze
  | .thaw => thaw
  | .resetStats => resetStats
  | _ => fun _ s => (s, .refuse .unknown)

theorem acceptedBy_iff {c : Instr} (hc : isPlainCommand c = true) (r : RunState) : acceptedBy c r = true ↔ acceptedIn c r := by
  cases c with
  | startCommand | setConfig | writeChannel | writeParameter | writeMeasure | writeSlot =>
    simp [acceptedBy, acceptedIn, onlyStopped]
  | suspend => simp [acceptedBy, acceptedIn, onlyMeasuring]
  | resume => cases r <;> simp [acceptedBy, acceptedIn, onlySuspended]
  | zero => cases hc
  | _ => simp [acceptedBy, acceptedIn, anyRunState]

/-- R25 to R27: every host command but ZERO is one execution of its act; START alone may then place a ZERO's response. -/
theorem exec_plain {c : Instr} (hc : isPlainCommand c = true) (s : State) :
    exec c s = .next (if c = .startCommand then (s.runCommand c (acceptedBy c) (actOf c)).placeAborted s
      else s.runCommand c (acceptedBy c) (actOf c)) := by
  cases c <;> first | rfl | cases hc

/-- The act of a host command keeps the parts its owning block cannot write. -/
theorem actOf_keeps {c : Instr} {p : Part} (hp : (actingParts c).contains p = false) : ActsKeep p (actOf c) := by
  cases c with
  | identify => exact fun e u => by cases p <;> rfl
  | readStatus => exact readStatus_same hp
  | resetWarm => exact fun e u => by cases p <;> rfl
  | resetCold => exact fun e u => by cases p <;> rfl
  | startCommand => exact startCommand_same hp
  | stop => exact stop_same hp
  | suspend => exact suspend_same hp
  | resume => exact resume_same hp
  | setPosition => exact setPosition_same hp
  | setConfig => exact setConfig_same hp
  | readConfig => exact fun e u => by cases p <;> rfl
  | setStream => exact setStream_same hp
  | writeChannel => exact writeChannel_same hp
  | readChannel => exact fun e u => .of_eq (readChannel_frame e u)
  | writeParameter => exact writeParameter_same hp
  | readParameter => exact fun e u => .of_eq (readParameter_frame e u)
  | writeMeasure => exact writeMeasure_same hp
  | readMeasure => exact fun e u => .of_eq (readMeasure_frame e u)
  | rebase => exact rebase_same hp
  | writeLimits => exact writeLimits_same hp
  | readLimits => exact fun e u => .of_eq (readLimits_frame e u)
  | writeMark => exact writeMark_same hp
  | deleteMark => exact deleteMark_same hp
  | clearMarks => exact fun e u => by cases p <;> first | rfl | cases hp
  | readMark => exact fun e u => .of_eq (readMark_frame e u)
  | appendSection => exact appendSection_same hp
  | clearSections => exact fun e u => by cases p <;> first | rfl | cases hp
  | readSection => exact fun e u => .of_eq (readSection_frame e u)
  | writeSlot => exact writeSlot_same hp
  | readSlot => exact fun e u => .of_eq (readSlot_frame e u)
  | freeze => exact freeze_same p
  | thaw => exact fun e u => by cases p <;> rfl
  | resetStats => exact resetStats_same hp
  | _ => exact fun _ u => .refl p u

/-! ### The command queue and the response queue at a host command (R25 to R27) -/

/-- R25: an entry addressed to the part is taken only while the response queue has a free place. -/
theorem headCommand_eq_some {s : State} {row : Instr} {e : CommandEntry} (h : s.headCommand row = some e) :
    e.broadcast = true ∨ s.ltx.responses.length < 4 := by
  unfold State.headCommand at h
  split at h
  · exact absurd h nofun
  · obtain ⟨⟨_, hroom, _⟩, ⟨⟩⟩ := Option.ite_none_right_eq_some.mp h
    exact hroom.imp_right fun hr => by simpa [Ltx.responseRoom, Config.responseCapacity] using hr

/-- R27: what an answer does to the response queue. -/
theorem answer_responses (s : State) (e : CommandEntry) (r : Reply) :
    (s.answer e r).ltx.responses = s.ltx.responses ∨
      (e.broadcast = false ∧ ∃ x, (s.answer e r).ltx.responses = s.ltx.responses ++ [x]) := by
  rcases answer_cases s e r with ⟨hb, h⟩ | ⟨_, _, h⟩ | ⟨_, _, h⟩
  · exact .inr ⟨hb, _, by rw [h]; rfl⟩
  · exact .inl (by rw [h])
  · exact .inl (by rw [h]; rfl)

theorem answer_commands (s : State) (e : CommandEntry) (r : Reply) : (s.answer e r).lrx.commands = s.lrx.commands := by
  rcases answer_cases s e r with ⟨_, h⟩ | ⟨_, _, h⟩ | ⟨_, _, h⟩ <;> rw [h] <;> rfl

/-- R25, R27: what a host command can do to the two queues: a command removed from one, a response placed in the other. -/
structure State.Answers (s t : State) : Prop where
  commands : t.lrx.commands.length ≤ s.lrx.commands.length
  responses : t.ltx.responses = s.ltx.responses ∨
    (s.ltx.responses.length < 4 ∧ ∃ x, t.ltx.responses = s.ltx.responses ++ [x])

theorem answers_refl (s : State) : s.Answers s := ⟨le_rfl, .inl rfl⟩

/-- R25, R27: a taken entry, answered once the act has left both queues alone. -/
theorem answers_of_taken {s u : State} {row : Instr} {e : CommandEntry} (he : s.headCommand row = some e)
    (hcommands : u.lrx.commands = s.lrx.commands.tail) (hresponses : u.ltx.responses = s.ltx.responses) (r : Reply) :
    s.Answers (u.answer e r) where
  commands := by
    rw [answer_commands, hcommands, List.length_tail]
    omega
  responses := by
    rcases answer_responses u e r with h | ⟨hb, x, h⟩
    · exact .inl (h.trans hresponses)
    · rcases headCommand_eq_some he with hb' | hroom
      · exact absurd (hb.symm.trans hb') nofun
      · exact .inr ⟨hroom, x, by rw [h, hresponses]⟩

theorem runCommand_answers (s : State) (row : Instr) (allowed : RunState → Bool) {act : CommandEntry → State → State × Reply}
    (hcommands : ActsKeep .commands act) (hresponses : ActsKeep .responses act) : s.Answers (s.runCommand row allowed act) := by
  rcases runCommand_cases s row allowed act with ⟨_, h⟩ | ⟨e, he, h⟩
  · rw [h]
    exact answers_refl s
  · rw [h]
    unfold State.judgeCommand
    split
    · exact answers_of_taken (u := s.dropCommand) he rfl rfl _
    · split
      · exact answers_of_taken he (hcommands e s.dropCommand) (hresponses e s.dropCommand) _
      · exact answers_of_taken (u := s.dropCommand) he rfl rfl _

theorem execZero_answers {s t : State} (h : exec .zero s = .next t) : s.Answers t := by
  obtain rfl := Host.Outcome.next.inj h
  cases he : s.headCommand .zero with
  | none => exact answers_refl s
  | some e =>
    dsimp only
    unfold State.runZero
    split
    · exact answers_of_taken (u := s.dropCommand) he rfl rfl _
    · split
      · split
        · exact answers_of_taken (u := s.dropCommand) he rfl rfl _
        · exact ⟨by rw [show (s.dropCommand.withCal _).lrx.commands = s.lrx.commands.tail from rfl, List.length_tail]; omega,
            .inl rfl⟩
      · exact answers_of_taken (u := s.dropCommand) he rfl rfl _

theorem execUnknownCommand_answers {s t : State} (h : exec .unknownCommand s = .next t) : s.Answers t := by
  obtain rfl := Host.Outcome.next.inj h
  cases he : s.headCommand .unknownCommand with
  | none => exact answers_refl s
  | some e => exact answers_of_taken (u := s.dropCommand) he rfl rfl _

theorem execCommandDiscarded_answers {s t : State} (h : exec .commandDiscarded s = .next t) : s.Answers t := by
  obtain rfl := Host.Outcome.next.inj h
  cases s.headCommand .commandDiscarded with
  | none => exact answers_refl s
  | some e =>
    refine ⟨?_, .inl rfl⟩
    rw [show s.dropCommand.countDiscarded.lrx.commands = s.lrx.commands.tail from rfl, List.length_tail]
    omega

/-- R25, R27: a host command other than START takes at most one entry and places at most one response, in a free place. -/
theorem hostCommand_answers {c : Instr} {s t : State} (h : exec c s = .next t) (hc : isHostCommand c = true)
    (hstart : c ≠ .startCommand) : s.Answers t := by
  have hplain : isPlainCommand c = true → s.Answers t := fun hp => by
    rw [exec_plain hp, if_neg hstart] at h
    obtain rfl := Host.Outcome.next.inj h
    refine runCommand_answers s c _ (actOf_keeps ?_) (actOf_keeps ?_)
    · cases c <;> first | rfl | cases hp
    · cases c <;> first | rfl | cases hp
  cases c with
  | zero => exact execZero_answers h
  | unknownCommand => exact execUnknownCommand_answers h
  | commandDiscarded => exact execCommandDiscarded_answers h
  | startCommand => exact absurd rfl hstart
  | _ => first | exact hplain rfl | cases hc

end Sys2Proof.Machine


/-! SUPPORT. The capacities of the queues, the limits of the counts and the shape of the hand-overs, queue by queue and count by
count, across every command (R16, R18, R22, R23, R57, R105, R150, R184, R188). -/

namespace Sys2Proof.Machine

/-! ### What the notices to LTX leave of LRX -/

theorem discardFrame_lrx (s : State) (f : Assembly) : (s.discardFrame f).lrx = s.lrx := by
  obtain ⟨_, _, _, h⟩ := discardFrame_frame s f
  rw [h]

theorem handOctet_lrx (s : State) (b : Octet) : (s.handOctet b).lrx = s.lrx := by
  obtain ⟨_, _, _, h⟩ := handOctet_parts s b
  rw [h]

theorem frameStartNotice_lrx (s : State) (head : List Octet) : (s.frameStartNotice head).lrx = s.lrx := by
  obtain ⟨_, _, _, h⟩ := frameStartNotice_parts s head
  rw [h]

theorem judgeFrame_lrx (s : State) (f : Assembly) :
    (s.judgeFrame f).lrx = s.lrx.move .ready s.lrx.counters.lengthError ∨
      (s.judgeFrame f).lrx = s.lrx.move .ready s.lrx.counters.checkError ∨
        ∃ h p, (s.judgeFrame f).lrx = s.lrx.afterGood h p := by
  unfold State.judgeFrame
  split
  · exact .inl rfl
  · next h _ =>
    split
    · exact .inl (discardFrame_lrx _ f)
    · split
      · rw [goodFrame_eq]
        exact .inr (.inr ⟨h, _, rfl⟩)
      · exact .inr (.inl (discardFrame_lrx _ f))

/-! ### The link counters (R20 to R22) -/

section

variable {c : LinkCounters} (h : c.Bounded)

include h

theorem framing_bounded : c.framing.Bounded := { h with framingErrors := countUp_le _ _ }

theorem lengthError_bounded : c.lengthError.Bounded := { h with lengthErrors := countUp_le _ _ }

theorem checkError_bounded : c.checkError.Bounded := { h with checkErrors := countUp_le _ _ }

theorem good_bounded : c.good.Bounded := { h with goodFrames := countUp_le _ _ }

theorem aborted_bounded : c.aborted.Bounded := { h with abortsReceived := countUp_le _ _ }

theorem lockLoss_bounded : c.lockLoss.Bounded := { h with lockLosses := countUp_le _ _ }

theorem returnedFrame_bounded : c.returnedFrame.Bounded := { h with returned := countUp_le _ _ }

theorem overrun_bounded : c.overrun.Bounded := { h with sensorOverruns := countUp_le _ _ }

theorem commandDropped_bounded : c.commandDropped.Bounded := { h with commandsDropped := countUp_le _ _ }

theorem unknown_bounded : c.unknown.Bounded := { h with unknownKind := countUp_le _ _ }

end

theorem zero_bounded : LinkCounters.zero.Bounded := by
  constructor <;> decide

/-! ### What LRX holds at each arrival (R16, R18, R22) -/

/-- R16, R18, R22: a property of LRX that its counters and its two queues keep as frames come in. -/
structure KeptByArrivals (P : Lrx → Prop) : Prop where
  /-- The receiver and the link-up flag are not read. -/
  unread : ∀ l r up, P l → P { l with receiver := r, linkUp := up }
  /-- Any counter may count. -/
  counted : ∀ l c, P l → (l.counters.Bounded → c.Bounded) → P { l with counters := c }
  sensor : ∀ l e, P l → P (l.takeSensor e)
  command : ∀ l e, P l → P (l.takeCommand e)

section

variable {P : Lrx → Prop} (hP : KeptByArrivals P)

include hP

theorem KeptByArrivals.move {l : Lrx} (h : P l) (r : Receiver) {c : LinkCounters} (hc : l.counters.Bounded → c.Bounded) :
    P (l.move r c) :=
  hP.unread _ r l.linkUp (hP.counted l c h hc)

theorem KeptByArrivals.consume {l : Lrx} (h : P l) (head : Header) (p : List Octet) : P (l.consume head p) := by
  unfold Lrx.consume
  split
  · split
    · exact hP.sensor l _ h
    · exact hP.counted l _ h lengthError_bounded
  · split
    · exact hP.command l _ h
    · exact hP.counted l _ h unknown_bounded

theorem KeptByArrivals.afterGood {l : Lrx} (h : P l) (head : Header) (p : List Octet) : P (l.afterGood head p) := by
  have hgood := hP.move h .ready good_bounded
  unfold Lrx.afterGood
  dsimp only
  split
  · exact hgood
  · exact hP.move hgood .ready returnedFrame_bounded
  · exact hP.consume hgood head p
  · exact hP.consume hgood head p

theorem KeptByArrivals.arriveOctet {s : State} (h : P s.lrx) (b : Octet) : P (s.arriveOctet b).lrx := by
  unfold State.arriveOctet
  split
  · exact h
  · exact hP.move h .hunt framing_bounded
  · split
    · unfold State.headerOctet
      dsimp only
      split
      · exact hP.unread s.lrx _ s.lrx.linkUp h
      · split
        · exact hP.move h .hunt lengthError_bounded
        · split
          · rw [frameStartNotice_lrx]
            exact hP.unread s.lrx _ s.lrx.linkUp h
          · exact hP.unread s.lrx _ s.lrx.linkUp h
    · unfold State.bodyOctet
      dsimp only
      split
      · rw [discardFrame_lrx]
        exact hP.move h .hunt framing_bounded
      · rw [apply_ite State.lrx, handOctet_lrx, ite_self]
        exact hP.unread s.lrx _ s.lrx.linkUp h

theorem KeptByArrivals.arriveIdle {s : State} (h : P s.lrx) : P s.arriveIdle.lrx := by
  unfold State.arriveIdle
  split
  · exact hP.unread s.lrx _ _ h
  · exact h
  · rw [discardFrame_lrx]
    exact hP.move h .ready framing_bounded

theorem KeptByArrivals.arriveStart {s : State} (h : P s.lrx) : P s.arriveStart.lrx := by
  unfold State.arriveStart
  split
  · exact hP.unread s.lrx _ _ h
  · exact hP.unread s.lrx _ s.lrx.linkUp h
  · rw [discardFrame_lrx]
    exact hP.move h (.receiving .fresh) framing_bounded

theorem KeptByArrivals.arriveAbort {s : State} (h : P s.lrx) : P s.arriveAbort.lrx := by
  unfold State.arriveAbort
  split
  · exact h
  · exact hP.move h .ready framing_bounded
  · rw [discardFrame_lrx]
    exact hP.move h .ready aborted_bounded

theorem KeptByArrivals.arriveEnd {s : State} (h : P s.lrx) : P s.arriveEnd.lrx := by
  unfold State.arriveEnd
  split
  · exact h
  · exact hP.move h .ready framing_bounded
  · next f _ =>
    rcases judgeFrame_lrx s f with hj | hj | ⟨head, p, hj⟩
    · rw [hj]
      exact hP.move h .ready lengthError_bounded
    · rw [hj]
      exact hP.move h .ready checkError_bounded
    · rw [hj]
      exact hP.afterGood h head p

theorem KeptByArrivals.loseLock {s : State} (h : P s.lrx) : P s.loseLock.lrx := by
  rw [loseLock_eq]
  exact hP.unread _ .hunt false (hP.counted s.lrx _ h lockLoss_bounded)

theorem KeptByArrivals.exec {c : Instr} {s t : State} (h : P s.lrx) (ht : exec c s = .next t) (hc : isArrival c = true) :
    P t.lrx := by
  cases c with
  | dataOctet b => exact whileLocked_keeps (P := fun u => P u.lrx) (fun _ hu => hP.arriveOctet hu b) h ht
  | idle => exact whileLocked_keeps (P := fun u => P u.lrx) (fun _ => hP.arriveIdle) h ht
  | start => exact whileLocked_keeps (P := fun u => P u.lrx) (fun _ => hP.arriveStart) h ht
  | endFrame => exact whileLocked_keeps (P := fun u => P u.lrx) (fun _ => hP.arriveEnd) h ht
  | abort => exact whileLocked_keeps (P := fun u => P u.lrx) (fun _ => hP.arriveAbort) h ht
  | lossOfLock =>
    obtain rfl := Host.Outcome.next.inj ht
    exact hP.loseLock h
  | _ => cases hc

end

theorem takeSensor_intake {l : Lrx} (h : l.intake.length ≤ 8) (e : SensorEntry) : (l.takeSensor e).intake.length ≤ 8 := by
  unfold Lrx.takeSensor
  split
  · next hroom =>
    simp only [Config.intakeCapacity] at hroom
    simp only [List.length_append, List.length_singleton]
    omega
  · split
    · simp only [List.length_append, List.length_dropLast, List.length_singleton]
      omega
    · exact h

theorem takeSensor_counters {l : Lrx} (h : l.counters.Bounded) (e : SensorEntry) : (l.takeSensor e).counters.Bounded := by
  unfold Lrx.takeSensor
  split
  · exact h
  · split
    · exact overrun_bounded h
    · exact h

theorem takeSensor_commands (l : Lrx) (e : SensorEntry) : (l.takeSensor e).commands = l.commands := by
  obtain ⟨_, _, h⟩ := takeSensor_frame l e
  rw [h]

theorem takeCommand_commands {l : Lrx} (h : l.commands.length ≤ 4) (e : CommandEntry) :
    (l.takeCommand e).commands.length ≤ 4 := by
  by_cases hroom : l.commands.length < 4
  · rw [takeCommand_of_room e hroom]
    simp only [List.length_append, List.length_singleton]
    omega
  · rw [takeCommand_of_full e (Nat.le_of_not_lt hroom)]
    exact h

theorem takeCommand_counters {l : Lrx} (h : l.counters.Bounded) (e : CommandEntry) : (l.takeCommand e).counters.Bounded := by
  unfold Lrx.takeCommand
  split
  · exact h
  · exact commandDropped_bounded h

theorem takeCommand_intake (l : Lrx) (e : CommandEntry) : (l.takeCommand e).intake = l.intake := by
  obtain ⟨_, _, h⟩ := takeCommand_frame l e
  rw [h]

theorem keptByArrivals_intake : KeptByArrivals fun l => l.intake.length ≤ 8 where
  unread _ _ _ h := h
  counted _ _ h _ := h
  sensor _ e h := takeSensor_intake h e
  command l e h := (takeCommand_intake l e).symm ▸ h

theorem keptByArrivals_commands : KeptByArrivals fun l => l.commands.length ≤ 4 where
  unread _ _ _ h := h
  counted _ _ h _ := h
  sensor l e h := (takeSensor_commands l e).symm ▸ h
  command _ e h := takeCommand_commands h e

theorem keptByArrivals_counters : KeptByArrivals fun l => l.counters.Bounded where
  unread _ _ _ h := h
  counted _ _ h hc := hc h
  sensor _ e h := takeSensor_counters h e
  command _ e h := takeCommand_counters h e

end Sys2Proof.Machine


/-! SUPPORT. What every command does to the location and segment queues with their lost counts, to the alert, forward and response
queues, and to the hand-overs (R16, R57, R105, R150, R157, R184, R188, R191). -/

namespace Sys2Proof.Machine

/-! ### The location queue (R188) -/

/-- R188: a property of the location queue and its lost count that an offer, a take and a reset keep. -/
structure KeptByLocations (P : List LocationRecord → Nat → Prop) : Prop where
  offer : ∀ (l : Ltx) (r : LocationRecord), P l.locations l.locationLost →
    P (l.offerLocation r).locations (l.offerLocation r).locationLost
  take : ∀ (r : LocationRecord) (rest : List LocationRecord) (n : Nat), P (r :: rest) n → P rest n
  reset : P [] 0

/-- The property at a state. -/
def State.HoldsOfLocations (P : List LocationRecord → Nat → Prop) (s : State) : Prop := P s.ltx.locations s.ltx.locationLost

section

variable {P : List LocationRecord → Nat → Prop}

theorem readsOnly_locations : ReadsOnly [.locations, .locationLost] (State.HoldsOfLocations P) := by
  intro s t h hs
  have hl : t.ltx.locations = s.ltx.locations := h .locations (by simp)
  have hn : t.ltx.locationLost = s.ltx.locationLost := h .locationLost (by simp)
  rw [State.HoldsOfLocations, hl, hn]
  exact hs

variable (hP : KeptByLocations P)

include hP

theorem KeptByLocations.emit {s : State} (h : s.HoldsOfLocations P) (kind : LocationKind) (measured : Int) :
    (s.emitLocation kind measured).HoldsOfLocations P :=
  hP.offer s.ltx _ h

theorem KeptByLocations.rolledBack {s : State} (h : s.HoldsOfLocations P) :
    s.loseLocationIfRolledBack.HoldsOfLocations P := by
  unfold State.loseLocationIfRolledBack
  split
  · refine hP.emit ?_ _ _
    exact h
  · exact h

theorem KeptByLocations.startCommand (e : CommandEntry) (s : State) (h : s.HoldsOfLocations P) :
    (startCommand e s).1.HoldsOfLocations P := by
  refine readsOnly_locations (s.withCmu s.cmu.enterMeasuring).loseLocationIfRolledBack _ (fun p hp => ?_)
    (hP.rolledBack (s := s.withCmu s.cmu.enterMeasuring) h)
  fin_cases hp <;> rfl

theorem KeptByLocations.resume (e : CommandEntry) (s : State) (h : s.HoldsOfLocations P) :
    (resume e s).1.HoldsOfLocations P :=
  hP.rolledBack (s := s.withCmu s.cmu.enterMeasuring) h

theorem KeptByLocations.setPosition (e : CommandEntry) (s : State) (h : s.HoldsOfLocations P) :
    (setPosition e s).1.HoldsOfLocations P := by
  unfold Machine.setPosition
  dsimp only
  split
  · refine hP.emit ?_ _ _
    exact h
  · exact h

theorem KeptByLocations.takeReverseRequest {s : State} (h : s.HoldsOfLocations P) :
    s.takeReverseRequest.HoldsOfLocations P := by
  unfold State.takeReverseRequest
  split
  · exact h
  · dsimp only
    split
    · obtain ⟨_, _, hs⟩ := suspendRun_frame (s.withLinks { s.links with reverseRequest := none }) .reverse
      refine hP.emit ?_ _ _
      rw [hs]
      exact h
    · exact h

theorem KeptByLocations.markHandoff {s : State} (h : s.HoldsOfLocations P) : s.markHandoff.HoldsOfLocations P := by
  unfold State.markHandoff
  split
  · dsimp only
    split
    · exact h
    · refine hP.emit ?_ _ _
      exact h
  · exact h

theorem KeptByLocations.arbiterChoice {s : State} (h : s.HoldsOfLocations P) : s.arbiterChoice.HoldsOfLocations P := by
  rcases arbiterChoice_cases s with hc | ⟨_, ⟨_, _, _, hc⟩ | ⟨_, hc⟩ | ⟨_, _, _, hc⟩ | ⟨r, rest, hr, hc⟩ | ⟨_, _, hc⟩ |
    ⟨_, _, _, hc⟩ | ⟨_, _, _, _, _, hc⟩⟩
  case inr.inr.inr.inr.inl =>
    rw [hc]
    refine hP.take r rest _ ?_
    rw [← hr]
    exact h
  all_goals
    rw [hc]
    exact h

theorem KeptByLocations.transmissionEnd {s : State} (h : s.HoldsOfLocations P) :
    s.transmissionEnd.HoldsOfLocations P := by
  rcases transmissionEnd_cases s with ⟨⟨_, _, _, _, _, _, hend⟩, _⟩ | ⟨r, k, _, _, hend⟩
  · rw [hend]
    exact h
  · rw [hend]
    exact hP.reset

/-- R188: every command offers a record, takes one, clears the queue, or leaves it. -/
theorem KeptByLocations.exec (c : Instr) (s t : State) (hs : s.HoldsOfLocations P) (h : exec c s = .next t) :
    t.HoldsOfLocations P := by
  cases c with
  | powerOnReset straps =>
    obtain rfl := Host.Outcome.next.inj h
    exact hP.reset
  | startCommand =>
    obtain rfl := Host.Outcome.next.inj h
    have hrun := readsOnly_locations.runCommand rfl hP.startCommand hs (row := .startCommand) (allowed := onlyStopped)
    exact readsOnly_locations _ _ (fun p hp => placeAborted_same (by rintro rfl; simp at hp) (by rintro rfl; simp at hp) _ s)
      hrun
  | resume =>
    obtain rfl := Host.Outcome.next.inj h
    exact readsOnly_locations.runCommand rfl hP.resume hs
  | setPosition =>
    obtain rfl := Host.Outcome.next.inj h
    exact readsOnly_locations.runCommand rfl hP.setPosition hs
  | reverseLimitRequest =>
    obtain rfl := Host.Outcome.next.inj h
    exact hP.takeReverseRequest hs
  | markHandoff =>
    obtain rfl := Host.Outcome.next.inj h
    exact hP.markHandoff hs
  | arbiterChoice =>
    obtain rfl := Host.Outcome.next.inj h
    exact hP.arbiterChoice hs
  | transmissionEnd =>
    obtain rfl := Host.Outcome.next.inj h
    exact hP.transmissionEnd hs
  | _ => exact readsOnly_locations.exec_untouched h rfl hs

end

theorem offerLocation_length {l : Ltx} (h : l.locations.length ≤ 8) (r : LocationRecord) :
    (l.offerLocation r).locations.length ≤ 8 := by
  rcases offerLocation_cases l r with ⟨_, ho⟩ | ⟨_, ho⟩
  · rw [ho, List.length_append, List.length_singleton]
    omega
  · rw [ho]
    exact h

theorem offerLocation_lost {l : Ltx} (r : LocationRecord) : (l.offerLocation r).locationLost ≤ 255 := by
  rcases offerLocation_cases l r with ⟨_, ho⟩ | ⟨_, ho⟩
  · rw [ho]
    exact Nat.zero_le 255
  · rw [ho]
    exact countUp_le _ _

theorem keptByLocations_length : KeptByLocations fun xs _ => xs.length ≤ 8 where
  offer _ r h := offerLocation_length h r
  take _ _ _ h := (Nat.le_succ _).trans h
  reset := Nat.zero_le 8

theorem keptByLocations_lost : KeptByLocations fun _ n => n ≤ 255 where
  offer _ r _ := offerLocation_lost r
  take _ _ _ h := h
  reset := Nat.zero_le 255

/-! ### The segment queue (R188) -/

/-- R188: a property of the segment queue and its lost count that an offer, a take and a reset keep. -/
structure KeptBySegments (P : List SegmentRecord → Nat → Prop) : Prop where
  offer : ∀ (l : Ltx) (r : SegmentRecord), P l.segments l.segmentLost →
    P (l.offerSegment r).segments (l.offerSegment r).segmentLost
  take : ∀ (r : SegmentRecord) (rest : List SegmentRecord) (n : Nat), P (r :: rest) n → P rest n
  reset : P [] 0

/-- The property at a state. -/
def State.HoldsOfSegments (P : List SegmentRecord → Nat → Prop) (s : State) : Prop := P s.ltx.segments s.ltx.segmentLost

section

variable {P : List SegmentRecord → Nat → Prop}

theorem readsOnly_segments : ReadsOnly [.segments, .segmentLost] (State.HoldsOfSegments P) := by
  intro s t h hs
  have hl : t.ltx.segments = s.ltx.segments := h .segments (by simp)
  have hn : t.ltx.segmentLost = s.ltx.segmentLost := h .segmentLost (by simp)
  rw [State.HoldsOfSegments, hl, hn]
  exact hs

variable (hP : KeptBySegments P)

include hP

theorem KeptBySegments.place {s : State} (h : s.HoldsOfSegments P) (r : Option SegmentRecord) :
    (s.placeSegment r).HoldsOfSegments P := by
  cases r with
  | none => exact h
  | some x => exact hP.offer s.ltx x h

theorem KeptBySegments.stop (e : CommandEntry) (s : State) (h : s.HoldsOfSegments P) : (stop e s).1.HoldsOfSegments P := by
  unfold Machine.stop
  split
  · exact h
  · obtain ⟨_, _, hclose⟩ := closeRowBlock_frame
      (s.withCmu (s.cmu.setRunState .stopped)).endExceedances.stopSegment
    have hseg : (s.withCmu (s.cmu.setRunState .stopped)).endExceedances.stopSegment.HoldsOfSegments P :=
      hP.place (s := (s.withCmu (s.cmu.setRunState .stopped)).endExceedances.withStu s.stu.stopNotice.1) h _
    exact readsOnly_segments _ _ (fun p hp => by rw [State.stopNotice, hclose]; fin_cases hp <;> rfl) hseg

theorem KeptBySegments.stuRow {s : State} (h : s.HoldsOfSegments P) : s.stuRow.HoldsOfSegments P := by
  unfold State.stuRow
  split
  · split
    · dsimp only
      split
      · refine hP.place ?_ _
        exact h
      · exact h
    · exact h
  · exact h

theorem KeptBySegments.arbiterChoice {s : State} (h : s.HoldsOfSegments P) : s.arbiterChoice.HoldsOfSegments P := by
  rcases arbiterChoice_cases s with hc | ⟨_, ⟨_, _, _, hc⟩ | ⟨_, hc⟩ | ⟨_, _, _, hc⟩ | ⟨_, _, _, hc⟩ | ⟨_, _, hc⟩ |
    ⟨r, rest, hr, hc⟩ | ⟨_, _, _, _, _, hc⟩⟩
  case inr.inr.inr.inr.inr.inr.inl =>
    rw [hc]
    refine hP.take r rest _ ?_
    rw [← hr]
    exact h
  all_goals
    rw [hc]
    exact h

theorem KeptBySegments.transmissionEnd {s : State} (h : s.HoldsOfSegments P) : s.transmissionEnd.HoldsOfSegments P := by
  rcases transmissionEnd_cases s with ⟨⟨_, _, _, _, _, _, hend⟩, _⟩ | ⟨r, k, _, _, hend⟩
  · rw [hend]
    exact h
  · rw [hend]
    exact hP.reset

/-- R188: every command offers a record, takes one, clears the queue, or leaves it. -/
theorem KeptBySegments.exec (c : Instr) (s t : State) (hs : s.HoldsOfSegments P) (h : exec c s = .next t) :
    t.HoldsOfSegments P := by
  cases c with
  | powerOnReset straps =>
    obtain rfl := Host.Outcome.next.inj h
    exact hP.reset
  | stop =>
    obtain rfl := Host.Outcome.next.inj h
    exact readsOnly_segments.runCommand rfl hP.stop hs
  | stuRowEvent =>
    obtain rfl := Host.Outcome.next.inj h
    exact hP.stuRow hs
  | arbiterChoice =>
    obtain rfl := Host.Outcome.next.inj h
    exact hP.arbiterChoice hs
  | transmissionEnd =>
    obtain rfl := Host.Outcome.next.inj h
    exact hP.transmissionEnd hs
  | _ => exact readsOnly_segments.exec_untouched h rfl hs

end

theorem offerSegment_length {l : Ltx} (h : l.segments.length ≤ 4) (r : SegmentRecord) :
    (l.offerSegment r).segments.length ≤ 4 := by
  rcases offerSegment_cases l r with ⟨_, ho⟩ | ⟨_, ho⟩
  · rw [ho, List.length_append, List.length_singleton]
    omega
  · rw [ho]
    exact h

theorem offerSegment_lost {l : Ltx} (r : SegmentRecord) : (l.offerSegment r).segmentLost ≤ 255 := by
  rcases offerSegment_cases l r with ⟨_, ho⟩ | ⟨_, ho⟩
  · rw [ho]
    exact Nat.zero_le 255
  · rw [ho]
    exact countUp_le _ _

theorem keptBySegments_length : KeptBySegments fun xs _ => xs.length ≤ 4 where
  offer _ r h := offerSegment_length h r
  take _ _ _ h := (Nat.le_succ _).trans h
  reset := Nat.zero_le 4

theorem keptBySegments_lost : KeptBySegments fun _ n => n ≤ 255 where
  offer _ r _ := offerSegment_lost r
  take _ _ _ h := h
  reset := Nat.zero_le 255

/-! ### The alert queue and the exceptions lost (R150, R155, R157, R160) -/

theorem raiseTracked_alerts {t : Tracker} (h : t.alerts.length ≤ 4) (c : Fin 32) (row : RowRef) (epoch : BitVec 8)
    (speed : Nat) : (t.raiseTracked c row epoch speed).alerts.length ≤ 4 ∧
      (t.raiseTracked c row epoch speed).ext.lost = t.ext.lost := by
  unfold Tracker.raiseTracked
  dsimp only
  split
  · next hroom =>
    simp only [Config.alertCapacity] at hroom
    exact ⟨by simpa using hroom, rfl⟩
  · exact ⟨h, rfl⟩

theorem raiseUntracked_alerts {t : Tracker} (h : t.alerts.length ≤ 4) (m : Fin 16) (u : UntrackedRecord) (row : RowRef)
    (epoch : BitVec 8) (speed : Nat) : (t.raiseUntracked m u row epoch speed).alerts.length ≤ 4 := by
  unfold Tracker.raiseUntracked
  dsimp only
  split
  · next hroom =>
    simp only [Config.alertCapacity] at hroom
    simpa using hroom
  · exact h

/-- R157: no notice takes the alert queue past its capacity. -/
theorem take_alerts {t : Tracker} (h : t.alerts.length ≤ 4) (c : ConfigRecord) (n : Notice) :
    (t.take c n).alerts.length ≤ 4 := by
  cases n with
  | opened m run level row epoch speed =>
    show (t.opened m run level row epoch speed).alerts.length ≤ 4
    unfold Tracker.opened
    split
    · dsimp only
      split
      · refine (raiseTracked_alerts ?_ _ _ _ _).1
        exact h
      · exact h
    · dsimp only
      split
      · refine raiseUntracked_alerts ?_ _ _ _ _ _
        exact h
      · exact h
  | row m row epoch valid a v sat low speed level =>
    show (t.followed m row epoch valid a v sat low speed level).alerts.length ≤ 4
    unfold Tracker.followed
    split
    · exact h
    · dsimp only
      split
      · refine (raiseTracked_alerts ?_ _ _ _ _).1
        exact h
      · exact h
    · dsimp only
      split
      · refine raiseUntracked_alerts ?_ _ _ _ _ _
        exact h
      · exact h
  | closed m cause endRow level => exact h

/-- R150, R155, R160: no notice takes the count of exceptions lost past its limit. -/
theorem take_lost {t : Tracker} (h : t.ext.lost ≤ 255) (c : ConfigRecord) (n : Notice) : (t.take c n).ext.lost ≤ 255 := by
  cases n with
  | opened m run level row epoch speed =>
    show (t.opened m run level row epoch speed).ext.lost ≤ 255
    cases hf : t.ext.free with
    | nil =>
      rw [opened_of_no_free hf]
      exact countUp_le _ _
    | cons k rest =>
      rw [opened_of_free hf]
      exact h
  | row m row epoch valid a v sat low speed level =>
    show (t.followed m row epoch valid a v sat low speed level).ext.lost ≤ 255
    cases he : t.ext.openMap[m] with
    | none =>
      rw [show t.followed m row epoch valid a v sat low speed level = t by simp only [Tracker.followed, he]]
      exact h
    | tracked k =>
      rw [followed_of_tracked he]
      exact h
    | untracked u =>
      rw [followed_of_untracked he]
      exact h
  | closed m cause endRow level =>
    show (t.ext.closed c m cause endRow).lost ≤ 255
    unfold Ext.closed
    split
    · exact h
    · exact Nat.zero_le 255
    · exact h

theorem truncate_lost {x : Ext} (h : x.lost ≤ 255) (c : ConfigRecord) : (x.truncate c).lost ≤ 255 := by
  rw [truncate_eq x c]
  dsimp only
  split
  · exact h
  · exact Nat.zero_le 255

/-- A property that every notice keeps is kept by the notices of a row. -/
theorem foldl_take_keeps {P : Tracker → Prop} (c : ConfigRecord) (hP : ∀ t n, P t → P (t.take c n)) (ns : List Notice)
    {t : Tracker} (h : P t) : P (ns.foldl (fun t n => t.take c n) t) := by
  induction ns generalizing t with
  | nil => exact h
  | cons n ns ih => exact ih (hP t n h)

theorem takeRow_alerts {t : Tracker} (h : t.alerts.length ≤ 4) (c : ConfigRecord) (ns : List Notice) (index : Quad) :
    (t.takeRow c ns index).alerts.length ≤ 4 :=
  foldl_take_keeps (P := fun t => t.alerts.length ≤ 4) c (fun _ n ht => take_alerts ht c n) ns h

theorem takeRow_lost {t : Tracker} (h : t.ext.lost ≤ 255) (c : ConfigRecord) (ns : List Notice) (index : Quad) :
    (t.takeRow c ns index).ext.lost ≤ 255 :=
  foldl_take_keeps (P := fun t => t.ext.lost ≤ 255) c (fun _ n ht => take_lost ht c n) ns h

end Sys2Proof.Machine


/-! SUPPORT. Each queue and each count across every command, and the shape of the hand-overs (R16, R18, R22, R23, R57, R105, R150,
R184). -/

namespace Sys2Proof.Machine

/-! ### The queues -/

theorem readsOnly_intake : ReadsOnly [.intake] fun s => s.lrx.intake.length ≤ 8 := fun s t h hs => by
  show t.lrx.intake.length ≤ 8
  rw [show t.lrx.intake = s.lrx.intake from h .intake (by simp)]
  exact hs

theorem takeFrame_intake {s : State} (h : s.lrx.intake.length ≤ 8) : s.takeFrame.lrx.intake.length ≤ 8 := by
  unfold State.takeFrame
  split
  · exact h
  · obtain ⟨_, _, _, hc⟩ := completeZero_frame ((s.withLrx { s.lrx with intake := s.lrx.intake.tail }).withCal _)
    rw [hc]
    show s.lrx.intake.tail.length ≤ 8
    rw [List.length_tail]
    omega

theorem exec_intake (c : Instr) (s t : State) (hs : s.lrx.intake.length ≤ 8) (h : exec c s = .next t) :
    t.lrx.intake.length ≤ 8 := by
  cases c with
  | endFrame => exact keptByArrivals_intake.exec hs h rfl
  | powerOnReset straps =>
    obtain rfl := Host.Outcome.next.inj h
    exact Nat.zero_le 8
  | frameTake =>
    obtain rfl := Host.Outcome.next.inj h
    exact takeFrame_intake hs
  | transmissionEnd =>
    obtain rfl := Host.Outcome.next.inj h
    exact readsOnly_intake.transmissionEnd rfl (fun _ _ _ => Nat.zero_le 8) hs
  | _ => exact readsOnly_intake.exec_untouched h rfl hs

/-- R28, R53: START answers as any host command does, and may then place the response of the ZERO it aborted. -/
theorem exec_startCommand {s t : State} (h : exec .startCommand s = .next t) :
    s.Answers (s.runCommand .startCommand onlyStopped startCommand) ∧
      t = (s.runCommand .startCommand onlyStopped startCommand).placeAborted s := by
  refine ⟨runCommand_answers s _ _ (startCommand_same rfl) (startCommand_same rfl), ?_⟩
  exact (Host.Outcome.next.inj h).symm

theorem readsOnly_commands : ReadsOnly [.commands] fun s => s.lrx.commands.length ≤ 4 := fun s t h hs => by
  show t.lrx.commands.length ≤ 4
  rw [show t.lrx.commands = s.lrx.commands from h .commands (by simp)]
  exact hs

theorem exec_commands (c : Instr) (s t : State) (hs : s.lrx.commands.length ≤ 4) (h : exec c s = .next t) :
    t.lrx.commands.length ≤ 4 := by
  by_cases hhost : isHostCommand c = true
  · by_cases hstart : c = .startCommand
    · subst hstart
      obtain ⟨hanswers, rfl⟩ := exec_startCommand h
      have hplace : ((s.runCommand .startCommand onlyStopped startCommand).placeAborted s).lrx.commands = _ :=
        placeAborted_same (p := .commands) (by simp) (by simp) _ s
      rw [hplace]
      exact hanswers.commands.trans hs
    · exact (hostCommand_answers h hhost hstart).commands.trans hs
  · cases c with
    | endFrame => exact keptByArrivals_commands.exec hs h rfl
    | powerOnReset straps =>
      obtain rfl := Host.Outcome.next.inj h
      exact Nat.zero_le 4
    | transmissionEnd =>
      obtain rfl := Host.Outcome.next.inj h
      exact readsOnly_commands.transmissionEnd rfl (fun _ _ _ => Nat.zero_le 4) hs
    | _ => first | exact readsOnly_commands.exec_untouched h rfl hs | exact absurd rfl hhost

theorem readsOnly_responses : ReadsOnly [.responses] fun s => s.ltx.responses.length ≤ 4 := fun s t h hs => by
  show t.ltx.responses.length ≤ 4
  rw [show t.ltx.responses = s.ltx.responses from h .responses (by simp)]
  exact hs

theorem State.Answers.responses_le {s t : State} (h : s.Answers t) (hs : s.ltx.responses.length ≤ 4) :
    t.ltx.responses.length ≤ 4 := by
  rcases h.responses with hsame | ⟨hroom, x, hone⟩
  · rw [hsame]
    exact hs
  · rw [hone, List.length_append, List.length_singleton]
    omega

/-- R54: the response of a ZERO waits for a free place. -/
theorem placeZero_responses {s : State} (h : s.ltx.responses.length ≤ 4) : s.placeZero.ltx.responses.length ≤ 4 := by
  unfold State.placeZero
  split
  · split
    · next hroom =>
      simp only [Ltx.responseRoom, Config.responseCapacity, decide_eq_true_eq] at hroom
      show (s.ltx.responses ++ [_]).length ≤ 4
      rw [List.length_append, List.length_singleton]
      omega
    · exact h
  · exact h

theorem completeZero_responses {s : State} (h : s.ltx.responses.length ≤ 4) :
    s.completeZero.ltx.responses.length ≤ 4 := by
  unfold State.completeZero
  split
  · split
    · refine placeZero_responses ?_
      exact h
    · exact h
  · exact h

theorem takeFrame_responses {s : State} (h : s.ltx.responses.length ≤ 4) : s.takeFrame.ltx.responses.length ≤ 4 := by
  unfold State.takeFrame
  split
  · exact h
  · refine completeZero_responses ?_
    exact h

theorem expireZero_responses {s : State} (h : s.ltx.responses.length ≤ 4) : s.expireZero.ltx.responses.length ≤ 4 := by
  unfold State.expireZero
  split
  · refine placeZero_responses ?_
    exact h
  · exact h

theorem placeAborted_responses {s : State} (h : s.ltx.responses.length ≤ 4) (before : State) :
    (s.placeAborted before).ltx.responses.length ≤ 4 := by
  unfold State.placeAborted
  split
  · exact placeZero_responses h
  · exact h

theorem arbiterChoice_responses {s : State} (h : s.ltx.responses.length ≤ 4) :
    s.arbiterChoice.ltx.responses.length ≤ 4 := by
  rcases arbiterChoice_cases s with hc | ⟨_, ⟨_, _, _, hc⟩ | ⟨_, hc⟩ | ⟨r, rest, hr, hc⟩ | ⟨_, _, _, hc⟩ | ⟨_, _, hc⟩ |
    ⟨_, _, _, hc⟩ | ⟨_, _, _, _, _, hc⟩⟩
  case inr.inr.inr.inl =>
    rw [hr] at h
    rw [hc]
    exact (Nat.le_succ _).trans h
  all_goals
    rw [hc]
    exact h

theorem exec_responses (c : Instr) (s t : State) (hs : s.ltx.responses.length ≤ 4) (h : exec c s = .next t) :
    t.ltx.responses.length ≤ 4 := by
  by_cases hhost : isHostCommand c = true
  · by_cases hstart : c = .startCommand
    · subst hstart
      obtain ⟨hanswers, rfl⟩ := exec_startCommand h
      exact placeAborted_responses (hanswers.responses_le hs) s
    · exact (hostCommand_answers h hhost hstart).responses_le hs
  · cases c with
    | powerOnReset straps =>
      obtain rfl := Host.Outcome.next.inj h
      exact Nat.zero_le 4
    | frameTake =>
      obtain rfl := Host.Outcome.next.inj h
      exact takeFrame_responses hs
    | zeroTimeout =>
      obtain rfl := Host.Outcome.next.inj h
      exact expireZero_responses hs
    | zeroResponsePlaced =>
      obtain rfl := Host.Outcome.next.inj h
      exact placeZero_responses hs
    | arbiterChoice =>
      obtain rfl := Host.Outcome.next.inj h
      exact arbiterChoice_responses hs
    | transmissionEnd =>
      obtain rfl := Host.Outcome.next.inj h
      exact readsOnly_responses.transmissionEnd rfl (fun _ _ _ => Nat.zero_le 4) hs
    | _ => first | exact readsOnly_responses.exec_untouched h rfl hs | exact absurd rfl hhost

theorem readsOnly_alerts : ReadsOnly [.alerts] fun s => s.ltx.alerts.length ≤ 4 := fun s t h hs => by
  show t.ltx.alerts.length ≤ 4
  rw [show t.ltx.alerts = s.ltx.alerts from h .alerts (by simp)]
  exact hs

theorem rowEvent_alerts {s : State} (h : s.ltx.alerts.length ≤ 4) : s.rowEvent.ltx.alerts.length ≤ 4 := by
  unfold State.rowEvent
  split
  · dsimp only
    split
    · exact takeRow_alerts (t := s.tracker) h _ _ (Row.index ‹Row›)
    · exact h
  · exact h

theorem arbiterChoice_alerts {s : State} (h : s.ltx.alerts.length ≤ 4) : s.arbiterChoice.ltx.alerts.length ≤ 4 := by
  rcases arbiterChoice_cases s with hc | ⟨_, ⟨a, rest, ha, hc⟩ | ⟨_, hc⟩ | ⟨_, _, _, hc⟩ | ⟨_, _, _, hc⟩ | ⟨_, _, hc⟩ |
    ⟨_, _, _, hc⟩ | ⟨_, _, _, _, _, hc⟩⟩
  case inr.inl =>
    rw [ha] at h
    rw [hc]
    exact (Nat.le_succ _).trans h
  all_goals
    rw [hc]
    exact h

theorem exec_alerts (c : Instr) (s t : State) (hs : s.ltx.alerts.length ≤ 4) (h : exec c s = .next t) :
    t.ltx.alerts.length ≤ 4 := by
  cases c with
  | powerOnReset straps =>
    obtain rfl := Host.Outcome.next.inj h
    exact Nat.zero_le 4
  | rowEvent =>
    obtain rfl := Host.Outcome.next.inj h
    exact rowEvent_alerts hs
  | arbiterChoice =>
    obtain rfl := Host.Outcome.next.inj h
    exact arbiterChoice_alerts hs
  | transmissionEnd =>
    obtain rfl := Host.Outcome.next.inj h
    exact readsOnly_alerts.transmissionEnd rfl (fun _ _ _ => Nat.zero_le 4) hs
  | _ => exact readsOnly_alerts.exec_untouched h rfl hs

/-! ### The forward queue and the forwards dropped (R189, R191) -/

/-- R191: a property of the forward queue and the dropped count that a stored frame's end keeps. -/
theorem endNotice_keeps {P : List (List Octet) → Nat → Prop} (hjoin : ∀ l f n, l.length < 4 → P l n → P (l ++ [f]) n)
    (hdrop : ∀ l n, P l n → P l (countUp 65535 n)) {s : State} (h : P s.ltx.forward s.ltx.forwardsDropped) :
    P s.endNotice.ltx.forward s.endNotice.ltx.forwardsDropped := by
  unfold State.endNotice
  split
  · exact h
  · show P s.ltx.queueStored.forward s.ltx.queueStored.forwardsDropped
    unfold Ltx.queueStored
    split
    · exact h
    · split
      · next hroom => exact hjoin _ _ _ hroom h
      · exact hdrop _ _ h

theorem discardFrame_forward (s : State) (f : Assembly) : (s.discardFrame f).ltx.forward = s.ltx.forward ∧
    (s.discardFrame f).ltx.forwardsDropped = s.ltx.forwardsDropped := by
  obtain ⟨_, _, _, h⟩ := discardFrame_frame s f
  rw [h]
  exact ⟨rfl, rfl⟩

theorem arriveEnd_keeps {P : List (List Octet) → Nat → Prop} (hjoin : ∀ l f n, l.length < 4 → P l n → P (l ++ [f]) n)
    (hdrop : ∀ l n, P l n → P l (countUp 65535 n)) {s : State} (h : P s.ltx.forward s.ltx.forwardsDropped) :
    P s.arriveEnd.ltx.forward s.arriveEnd.ltx.forwardsDropped := by
  unfold State.arriveEnd
  split
  · exact h
  · exact h
  · next f _ =>
    unfold State.judgeFrame
    split
    · exact h
    · split
      · rw [(discardFrame_forward _ f).1, (discardFrame_forward _ f).2]
        exact h
      · split
        · rw [goodFrame_eq]
          split
          · exact endNotice_keeps hjoin hdrop h
          · exact h
        · rw [(discardFrame_forward _ f).1, (discardFrame_forward _ f).2]
          exact h

theorem readsOnly_forward : ReadsOnly [.forward] fun s => s.ltx.forward.length ≤ 4 := fun s t h hs => by
  show t.ltx.forward.length ≤ 4
  rw [show t.ltx.forward = s.ltx.forward from h .forward (by simp)]
  exact hs

theorem arriveEnd_forward {s : State} (h : s.ltx.forward.length ≤ 4) : s.arriveEnd.ltx.forward.length ≤ 4 :=
  arriveEnd_keeps (P := fun l _ => l.length ≤ 4) (fun l f _ hroom _ => by simpa using hroom) (fun _ _ hl => hl) h

theorem completeOwn_forward {s : State} (h : s.ltx.forward.length ≤ 4) (f : OwnFrame) :
    (s.completeOwn f).ltx.forward.length ≤ 4 := by
  unfold State.completeOwn
  split
  · exact h
  · exact h
  · exact h
  · split
    · exact h
    · exact Nat.zero_le 4
  · exact h
  · exact h

theorem transmissionEnd_forward {s : State} (h : s.ltx.forward.length ≤ 4) : s.transmissionEnd.ltx.forward.length ≤ 4 := by
  unfold State.transmissionEnd
  split
  · exact h
  · exact h
  · show s.ltx.forward.tail.length ≤ 4
    rw [List.length_tail]
    omega
  · exact completeOwn_forward (s := s.endFrameOnLane) h _

theorem exec_forward (c : Instr) (s t : State) (hs : s.ltx.forward.length ≤ 4) (h : exec c s = .next t) :
    t.ltx.forward.length ≤ 4 := by
  cases c with
  | endFrame => exact whileLocked_keeps (P := fun u => u.ltx.forward.length ≤ 4) (fun _ => arriveEnd_forward) hs h
  | powerOnReset straps =>
    obtain rfl := Host.Outcome.next.inj h
    exact Nat.zero_le 4
  | transmissionEnd =>
    obtain rfl := Host.Outcome.next.inj h
    exact transmissionEnd_forward hs
  | _ => exact readsOnly_forward.exec_untouched h rfl hs

/-! ### The counts -/

theorem readsOnly_counters : ReadsOnly [.counters] fun s => s.lrx.counters.Bounded := fun s t h hs => by
  show t.lrx.counters.Bounded
  rw [show t.lrx.counters = s.lrx.counters from h .counters (by simp)]
  exact hs

theorem readStatus_counters (e : CommandEntry) (s : State) (h : s.lrx.counters.Bounded) :
    (readStatus e s).1.lrx.counters.Bounded := by
  unfold readStatus
  split
  · exact h
  · dsimp only
    split
    · exact zero_bounded
    · exact h

theorem exec_counters (c : Instr) (s t : State) (hs : s.lrx.counters.Bounded) (h : exec c s = .next t) :
    t.lrx.counters.Bounded := by
  cases c with
  | dataOctet | idle | start | endFrame | abort | lossOfLock => exact keptByArrivals_counters.exec hs h rfl
  | powerOnReset straps =>
    obtain rfl := Host.Outcome.next.inj h
    exact zero_bounded
  | readStatus =>
    obtain rfl := Host.Outcome.next.inj h
    exact readsOnly_counters.runCommand rfl readStatus_counters hs
  | transmissionEnd =>
    obtain rfl := Host.Outcome.next.inj h
    exact readsOnly_counters.transmissionEnd rfl (fun _ _ _ => zero_bounded) hs
  | _ => exact readsOnly_counters.exec_untouched h rfl hs

/-- R23: the count of discarded commands within its limit. -/
def State.DiscardedBounded (s : State) : Prop := s.cmu.commandsDiscarded ≤ 65535

theorem readsOnly_discarded : ReadsOnly [.commandsDiscarded] State.DiscardedBounded := fun s t h hs => by
  rw [State.DiscardedBounded, show t.cmu.commandsDiscarded = s.cmu.commandsDiscarded from h .commandsDiscarded (by simp)]
  exact hs

theorem answer_discarded {s : State} (h : s.DiscardedBounded) (e : CommandEntry) (r : Reply) :
    (s.answer e r).DiscardedBounded := by
  rcases answer_cases s e r with ⟨_, ha⟩ | ⟨_, _, ha⟩ | ⟨_, _, ha⟩
  · rw [ha]
    exact h
  · rw [ha]
    exact h
  · rw [ha]
    exact countUp_le _ _

theorem readStatus_discarded (e : CommandEntry) (s : State) (h : s.DiscardedBounded) :
    (readStatus e s).1.DiscardedBounded := by
  unfold readStatus
  split
  · exact h
  · dsimp only
    split
    · exact Nat.zero_le 65535
    · exact h

theorem actOf_discarded {c : Instr} (e : CommandEntry) (s : State) (h : s.DiscardedBounded) :
    (actOf c e s).1.DiscardedBounded := by
  by_cases hc : (actingParts c).contains .commandsDiscarded = true
  · cases c with
    | readStatus => exact readStatus_discarded e s h
    | powerOnReset | transmissionEnd => exact h
    | _ => cases hc
  · have hkeep : (actOf c e s).1.cmu.commandsDiscarded = s.cmu.commandsDiscarded :=
      actOf_keeps (p := .commandsDiscarded) (by simpa using hc) e s
    rw [State.DiscardedBounded, hkeep]
    exact h

theorem runZero_discarded {s : State} (h : s.DiscardedBounded) (e : CommandEntry) : (s.runZero e).DiscardedBounded := by
  unfold State.runZero
  split
  · exact answer_discarded h e _
  · split
    · split
      · exact answer_discarded h e _
      · exact h
    · exact answer_discarded h e _

theorem hostCommand_discarded {c : Instr} {s t : State} (hs : s.DiscardedBounded) (h : exec c s = .next t)
    (hc : isHostCommand c = true) : t.DiscardedBounded := by
  have hplain : isPlainCommand c = true → t.DiscardedBounded := fun hp => by
    have hrun : (s.runCommand c (acceptedBy c) (actOf c)).DiscardedBounded :=
      runCommand_keeps hs id actOf_discarded fun _ _ _ hu => answer_discarded hu _ _
    rw [exec_plain hp] at h
    obtain rfl := Host.Outcome.next.inj h
    split
    · exact readsOnly_discarded _ _ (fun p hp => placeAborted_same (by rintro rfl; simp at hp) (by rintro rfl; simp at hp) _ s)
        hrun
    · exact hrun
  cases c with
  | zero =>
    obtain rfl := Host.Outcome.next.inj h
    split
    · exact hs
    · exact runZero_discarded (s := s.dropCommand) hs _
  | unknownCommand =>
    obtain rfl := Host.Outcome.next.inj h
    split
    · exact hs
    · exact answer_discarded (s := s.dropCommand) hs _ _
  | commandDiscarded =>
    obtain rfl := Host.Outcome.next.inj h
    split
    · exact hs
    · exact countUp_le _ _
  | _ => first | exact hplain rfl | cases hc

theorem exec_discarded (c : Instr) (s t : State) (hs : s.DiscardedBounded) (h : exec c s = .next t) : t.DiscardedBounded := by
  by_cases hhost : isHostCommand c = true
  · exact hostCommand_discarded hs h hhost
  · cases c with
    | powerOnReset straps =>
      obtain rfl := Host.Outcome.next.inj h
      exact Nat.zero_le 65535
    | transmissionEnd =>
      obtain rfl := Host.Outcome.next.inj h
      exact readsOnly_discarded.transmissionEnd rfl (fun _ k _ => by cases k <;> exact Nat.zero_le 65535) hs
    | _ => first | exact readsOnly_discarded.exec_untouched h rfl hs | exact absurd rfl hhost

theorem readsOnly_dropped : ReadsOnly [.forwardsDropped] fun s => s.ltx.forwardsDropped ≤ 65535 := fun s t h hs => by
  show t.ltx.forwardsDropped ≤ 65535
  rw [show t.ltx.forwardsDropped = s.ltx.forwardsDropped from h .forwardsDropped (by simp)]
  exact hs

theorem readStatus_dropped (e : CommandEntry) (s : State) (h : s.ltx.forwardsDropped ≤ 65535) :
    (readStatus e s).1.ltx.forwardsDropped ≤ 65535 := by
  unfold readStatus
  split
  · exact h
  · dsimp only
    split
    · exact Nat.zero_le 65535
    · exact h

theorem arriveEnd_dropped {s : State} (h : s.ltx.forwardsDropped ≤ 65535) : s.arriveEnd.ltx.forwardsDropped ≤ 65535 :=
  arriveEnd_keeps (P := fun _ n => n ≤ 65535) (fun _ _ _ _ hn => hn) (fun _ _ _ => countUp_le _ _) h

theorem exec_dropped (c : Instr) (s t : State) (hs : s.ltx.forwardsDropped ≤ 65535) (h : exec c s = .next t) :
    t.ltx.forwardsDropped ≤ 65535 := by
  cases c with
  | endFrame => exact whileLocked_keeps (P := fun u => u.ltx.forwardsDropped ≤ 65535) (fun _ => arriveEnd_dropped) hs h
  | powerOnReset straps =>
    obtain rfl := Host.Outcome.next.inj h
    exact Nat.zero_le 65535
  | readStatus =>
    obtain rfl := Host.Outcome.next.inj h
    exact readsOnly_dropped.runCommand rfl readStatus_dropped hs
  | transmissionEnd =>
    obtain rfl := Host.Outcome.next.inj h
    exact readsOnly_dropped.transmissionEnd rfl (fun _ _ _ => Nat.zero_le 65535) hs
  | _ => exact readsOnly_dropped.exec_untouched h rfl hs

theorem readsOnly_skipped : ReadsOnly [.skippedRows] fun s => s.ltx.skippedRows ≤ 65535 := fun s t h hs => by
  show t.ltx.skippedRows ≤ 65535
  rw [show t.ltx.skippedRows = s.ltx.skippedRows from h .skippedRows (by simp)]
  exact hs

theorem closeBuffer_skipped (l : Ltx) (i : Fin 2) : (l.closeBuffer i).skippedRows = l.skippedRows := by
  unfold Ltx.closeBuffer
  split <;> rfl

theorem closeIfFull_skipped (l : Ltx) (i : Fin 2) : (l.closeIfFull i).skippedRows = l.skippedRows := by
  unfold Ltx.closeIfFull
  split
  · split
    · exact closeBuffer_skipped l i
    · rfl
  · rfl

theorem takeRow_skipped {l : Ltx} (h : l.skippedRows ≤ 65535) (mask : Half) (size : Nat) (r : Row) :
    (l.takeRow mask size r).skippedRows ≤ 65535 := by
  unfold Ltx.takeRow
  split
  · rw [Ltx.appendRow, closeIfFull_skipped]
    exact h
  · rw [Ltx.openBlock, closeIfFull_skipped]
    exact Nat.zero_le 65535
  · exact countUp_le _ _

theorem ltxRow_skipped {s : State} (h : s.ltx.skippedRows ≤ 65535) : s.ltxRow.ltx.skippedRows ≤ 65535 := by
  unfold State.ltxRow
  split
  · dsimp only
    split
    · exact takeRow_skipped h _ _ _
    · exact h
  · exact h

theorem exec_skipped (c : Instr) (s t : State) (hs : s.ltx.skippedRows ≤ 65535) (h : exec c s = .next t) :
    t.ltx.skippedRows ≤ 65535 := by
  cases c with
  | powerOnReset straps =>
    obtain rfl := Host.Outcome.next.inj h
    exact Nat.zero_le 65535
  | ltxRow =>
    obtain rfl := Host.Outcome.next.inj h
    exact ltxRow_skipped hs
  | transmissionEnd =>
    obtain rfl := Host.Outcome.next.inj h
    exact readsOnly_skipped.transmissionEnd rfl (fun _ _ _ => Nat.zero_le 65535) hs
  | _ => exact readsOnly_skipped.exec_untouched h rfl hs

/-- R150: the count of exceptions lost within its limit. -/
def State.LostBounded (s : State) : Prop := s.ext.lost ≤ 255

theorem readsOnly_lost : ReadsOnly [.ext] State.LostBounded := fun s t h hs => by
  rw [State.LostBounded, show t.ext = s.ext from h .ext (by simp)]
  exact hs

theorem endExceedances_lost {s : State} (h : s.LostBounded) : s.endExceedances.LostBounded := truncate_lost h s.cmu.config

theorem suspendRun_lost {s : State} (h : s.LostBounded) (cause : SuspendCause) : (s.suspendRun cause).LostBounded :=
  truncate_lost h s.cmu.config

theorem stop_lost (e : CommandEntry) (s : State) (h : s.LostBounded) : (stop e s).1.LostBounded := by
  unfold stop
  split
  · exact h
  · obtain ⟨_, _, _, _, _, _, hn⟩ := stopNotice_frame (s.withCmu (s.cmu.setRunState .stopped))
    rw [hn]
    exact truncate_lost h s.cmu.config

theorem suspend_lost (e : CommandEntry) (s : State) (h : s.LostBounded) : (suspend e s).1.LostBounded :=
  suspendRun_lost h .command

theorem startCommand_lost (e : CommandEntry) (s : State) (h : s.LostBounded) : (startCommand e s).1.LostBounded := by
  obtain ⟨_, _, _, _, hs⟩ := startCommand_frame e s
  rw [hs]
  exact h

theorem takeReverseRequest_lost {s : State} (h : s.LostBounded) : s.takeReverseRequest.LostBounded := by
  unfold State.takeReverseRequest
  split
  · exact h
  · dsimp only
    split
    · exact truncate_lost h s.cmu.config
    · exact h

theorem rowEvent_lost {s : State} (h : s.LostBounded) : s.rowEvent.LostBounded := by
  unfold State.rowEvent
  split
  · dsimp only
    split
    · refine takeRow_lost ?_ _ _ _
      exact h
    · exact h
  · exact h

theorem exdGap_lost {s : State} (h : s.LostBounded) : s.exdGap.LostBounded := by
  unfold State.exdGap
  split
  · dsimp only
    split
    · refine truncate_lost ?_ _
      exact h
    · exact h
  · exact h

theorem arbiterChoice_lost {s : State} (h : s.LostBounded) : s.arbiterChoice.LostBounded := by
  rcases arbiterChoice_cases s with hc | ⟨_, ⟨_, _, _, hc⟩ | ⟨_, hc⟩ | ⟨_, _, _, hc⟩ | ⟨_, _, _, hc⟩ | ⟨_, _, hc⟩ |
    ⟨_, _, _, hc⟩ | ⟨_, _, _, _, _, hc⟩⟩
  all_goals
    rw [hc]
    exact h

theorem transmissionEnd_lost {s : State} (h : s.LostBounded) : s.transmissionEnd.LostBounded := by
  unfold State.transmissionEnd
  split
  · exact h
  · exact h
  · exact h
  · unfold State.completeOwn
    split
    · exact h
    · exact h
    · exact h
    · split
      · exact h
      · exact Nat.zero_le 255
    · exact h
    · exact h

theorem exec_lost (c : Instr) (s t : State) (hs : s.LostBounded) (h : exec c s = .next t) : t.LostBounded := by
  cases c with
  | powerOnReset straps =>
    obtain rfl := Host.Outcome.next.inj h
    exact Nat.zero_le 255
  | startCommand =>
    obtain rfl := Host.Outcome.next.inj h
    have hrun := readsOnly_lost.runCommand rfl startCommand_lost hs (row := .startCommand) (allowed := onlyStopped)
    exact readsOnly_lost _ _ (fun p hp => placeAborted_same (by rintro rfl; simp at hp) (by rintro rfl; simp at hp) _ s) hrun
  | stop =>
    obtain rfl := Host.Outcome.next.inj h
    exact readsOnly_lost.runCommand rfl stop_lost hs
  | suspend =>
    obtain rfl := Host.Outcome.next.inj h
    exact readsOnly_lost.runCommand rfl suspend_lost hs
  | reverseLimitRequest =>
    obtain rfl := Host.Outcome.next.inj h
    exact takeReverseRequest_lost hs
  | rowEvent =>
    obtain rfl := Host.Outcome.next.inj h
    exact rowEvent_lost hs
  | exdGapNotice =>
    obtain rfl := Host.Outcome.next.inj h
    exact exdGap_lost hs
  | arbiterChoice =>
    obtain rfl := Host.Outcome.next.inj h
    exact arbiterChoice_lost hs
  | transmissionEnd =>
    obtain rfl := Host.Outcome.next.inj h
    exact transmissionEnd_lost hs
  | _ => exact readsOnly_lost.exec_untouched h rfl hs

end Sys2Proof.Machine


/-! SUPPORT. The shape of ODO's hand-over and the rows that wait at EXD and at STU, across every command (R57, R85, R105). -/

namespace Sys2Proof.Machine

/-! ### The hand-over from ODO to LOC (R57, R85) -/

theorem gridShape_iff (l : List OdoItem) :
    handOverShape.gridShape l = true ↔
      (∃ run, l = [.gap run]) ∨ (l.length ≤ 4 ∧ ∀ x ∈ l, ∃ y, x = OdoItem.sample y) := by
  unfold handOverShape.gridShape
  split
  · next run => exact ⟨fun _ => .inl ⟨run, rfl⟩, fun _ => rfl⟩
  · next hgap =>
    rw [Bool.and_eq_true, decide_eq_true_eq, List.all_eq_true]
    constructor
    · rintro ⟨hlen, hall⟩
      refine .inr ⟨hlen, fun x hx => ?_⟩
      have hsample := hall x hx
      split at hsample
      · exact ⟨_, rfl⟩
      · exact absurd hsample Bool.false_ne_true
    · rintro (⟨run, hl⟩ | ⟨hlen, hall⟩)
      · exact absurd hl (hgap run)
      · refine ⟨hlen, fun x hx => ?_⟩
        obtain ⟨y, rfl⟩ := hall x hx
        rfl

theorem handOverShape_of_gridShape {l : List OdoItem} (h : handOverShape.gridShape l = true) : handOverShape l = true := by
  unfold handOverShape
  split
  · rcases (gridShape_iff _).mp h with ⟨_, hl⟩ | ⟨_, hall⟩
    · cases hl
    · obtain ⟨_, hx⟩ := hall _ (List.mem_cons_self ..)
      cases hx
  · exact h

theorem gridShape_tail {x : OdoItem} {rest : List OdoItem} (h : handOverShape.gridShape (x :: rest) = true) :
    handOverShape.gridShape rest = true := by
  refine (gridShape_iff rest).mpr (.inr ?_)
  rcases (gridShape_iff _).mp h with ⟨_, hl⟩ | ⟨hlen, hall⟩
  · obtain ⟨-, rfl⟩ := List.cons_eq_cons.mp hl
    exact ⟨Nat.zero_le 4, nofun⟩
  · exact ⟨(Nat.le_succ _).trans hlen, fun y hy => hall y (List.mem_cons_of_mem x hy)⟩

/-- R57, R85: what remains once LOC has taken the head keeps the shape. -/
theorem handOverShape_tail {l : List OdoItem} (h : handOverShape l = true) : handOverShape l.tail = true := by
  unfold handOverShape at h
  split at h
  · exact handOverShape_of_gridShape h
  · cases l with
    | nil => exact h
    | cons x rest => exact handOverShape_of_gridShape (gridShape_tail h)

/-- R70 to R77: step 7 gives one gap notice, or a sample per grid point reached, at most four. -/
theorem stepGrid_gridShape (o : Odo) (c : ConfigRecord) (measuring : Bool) (run : BitVec 8) (dOld : Nat)
    (base new : CalFrame) : handOverShape.gridShape (o.stepGrid c measuring run dOld base new).2 = true := by
  unfold Odo.stepGrid
  split
  · dsimp only
    split
    · rfl
    · next hgap =>
      have hfew : o.crossings c ≤ 4 := by
        simp only [Odo.gapCondition, Config.crossingsMax, Bool.or_eq_true, decide_eq_true_eq, not_or] at hgap
        omega
      refine (gridShape_iff _).mpr (.inr ⟨?_, fun x hx => ?_⟩)
      · rw [List.length_map, List.length_range]
        exact hfew
      · obtain ⟨j, _, rfl⟩ := List.mem_map.mp hx
        exact ⟨_, rfl⟩
  · rfl

theorem handMark_append_shape (o : Odo) (new : CalFrame) {grid : List OdoItem} (h : handOverShape.gridShape grid = true) :
    handOverShape (o.handMark new ++ grid) = true := by
  unfold Odo.handMark
  split
  · exact handOverShape_of_gridShape h
  · exact h

theorem takeFrame_shape (o : Odo) (c : ConfigRecord) (measuring : Bool) (run : BitVec 8) (new : CalFrame) :
    handOverShape (o.takeFrame c measuring run new).2 = true := by
  unfold Odo.takeFrame
  dsimp only
  split
  · rw [← List.append_nil (Odo.handMark _ new)]
    exact handMark_append_shape _ new rfl
  · exact handMark_append_shape _ new (stepGrid_gridShape _ _ _ _ _ _ _)

/-- R57: ODO's hand-over has the shape of what is left of a frame event. -/
def State.HandOverShaped (s : State) : Prop := handOverShape s.links.odoToLoc = true

theorem readsOnly_handOverShaped : ReadsOnly [.odoToLoc] State.HandOverShaped := fun s t h hs => by
  rw [State.HandOverShaped, show t.links.odoToLoc = s.links.odoToLoc from h .odoToLoc (by simp)]
  exact hs

theorem frameEvent_handOverShaped {s : State} (h : s.HandOverShaped) : s.frameEvent.HandOverShaped := by
  cases hr : s.recordToTake with
  | none =>
    rw [frameEvent_of_no_record hr]
    exact h
  | some new =>
    rw [frameEvent_of_record hr]
    exact takeFrame_shape _ _ _ _ new

theorem locSample_handOverShaped {s : State} (h : s.HandOverShaped) : s.locSample.HandOverShaped := by
  unfold State.locSample
  split
  · split <;> exact handOverShape_tail h
  · exact h

theorem locGap_handOverShaped {s : State} (h : s.HandOverShaped) : s.locGap.HandOverShaped := by
  unfold State.locGap
  split
  · split <;> exact handOverShape_tail h
  · exact h

theorem markHandoff_handOverShaped {s : State} (h : s.HandOverShaped) : s.markHandoff.HandOverShaped := by
  unfold State.markHandoff
  split
  · dsimp only
    split
    · exact handOverShape_tail h
    · obtain ⟨_, _, hemit⟩ := emitLocation_frame (s.dropLocItem.withLoc (s.loc.judgeMark _ _).1) (s.loc.judgeMark _ _).2 _
      rw [hemit]
      exact handOverShape_tail h
  · exact h

theorem exec_handOverShaped (c : Instr) (s t : State) (hs : s.HandOverShaped) (h : exec c s = .next t) :
    t.HandOverShaped := by
  cases c with
  | powerOnReset straps =>
    obtain rfl := Host.Outcome.next.inj h
    exact rfl
  | frameEvent =>
    obtain rfl := Host.Outcome.next.inj h
    exact frameEvent_handOverShaped hs
  | markHandoff =>
    obtain rfl := Host.Outcome.next.inj h
    exact markHandoff_handOverShaped hs
  | locSample =>
    obtain rfl := Host.Outcome.next.inj h
    exact locSample_handOverShaped hs
  | locGapNotice =>
    obtain rfl := Host.Outcome.next.inj h
    exact locGap_handOverShaped hs
  | transmissionEnd =>
    obtain rfl := Host.Outcome.next.inj h
    exact readsOnly_handOverShaped.transmissionEnd rfl (fun _ _ _ => rfl) hs
  | _ => exact readsOnly_handOverShaped.exec_untouched h rfl hs

/-! ### The rows that wait at EXD and at STU (R105) -/

/-- The rows among the items a stage has not taken yet. -/
def rowCount (l : List RowItem) : Nat := (l.filter RowItem.isRow).length

theorem rowCount_tail (l : List RowItem) : rowCount l.tail ≤ rowCount l :=
  ((List.tail_sublist l).filter _).length_le

theorem rowCount_append_gap (l : List RowItem) (run : BitVec 8) : rowCount (l ++ [.gap run]) = rowCount l := by
  rw [rowCount, List.filter_append, List.length_append]
  rfl

theorem rowCount_append_row {l : List RowItem} (h : l.any RowItem.isRow = false) (r : Row) :
    rowCount (l ++ [.row r]) = 1 := by
  have hnone : l.filter RowItem.isRow = [] :=
    List.filter_eq_nil_iff.mpr fun x hx hrow => List.any_eq_false.mp h x hx hrow
  rw [rowCount, List.filter_append, List.length_append, hnone]
  rfl

/-- R105: at most one row waits at EXD, and at most one at STU. -/
def State.OneRowWaits (s : State) : Prop := rowCount s.links.mseToExd ≤ 1 ∧ rowCount s.links.mseToStu ≤ 1

theorem readsOnly_oneRowWaits : ReadsOnly [.mseToExd, .mseToStu] State.OneRowWaits := fun s t h hs => by
  rw [State.OneRowWaits, show t.links.mseToExd = s.links.mseToExd from h .mseToExd (by simp),
    show t.links.mseToStu = s.links.mseToStu from h .mseToStu (by simp)]
  exact hs

/-- R105: MSE hands on a row only when the last one has been taken at both stages. -/
theorem sampleEvent_oneRowWaits {s : State} (h : s.OneRowWaits) : s.sampleEvent.OneRowWaits := by
  unfold State.sampleEvent
  split
  · next y hitem =>
    obtain ⟨htaken, _⟩ := mseItem_eq_some.mp hitem
    simp only [Links.rowsTaken, Bool.and_eq_true, Bool.not_eq_true'] at htaken
    dsimp only
    split
    · split
      · exact h
      · exact ⟨(rowCount_append_row htaken.1 _).le, (rowCount_append_row htaken.2 _).le⟩
    · exact h
  · exact h

theorem gapEvent_oneRowWaits {s : State} (h : s.OneRowWaits) : s.gapEvent.OneRowWaits := by
  unfold State.gapEvent
  split
  · split
    · exact ⟨(rowCount_append_gap ..).trans_le h.1, (rowCount_append_gap ..).trans_le h.2⟩
    · exact h
  · exact h

theorem State.OneRowWaits.exdTaken {s : State} (h : s.OneRowWaits) : (s.withLinks s.links.takenByExd).OneRowWaits :=
  ⟨(rowCount_tail _).trans h.1, h.2⟩

theorem oneRowWaits_of_links {s t : State} (hl : t.links = s.links) (h : s.OneRowWaits) : t.OneRowWaits := by
  rw [State.OneRowWaits, hl]
  exact h

theorem State.OneRowWaits.stuTaken {s : State} (h : s.OneRowWaits) : (s.withLinks s.links.takenByStu).OneRowWaits :=
  ⟨h.1, (rowCount_tail _).trans h.2⟩

theorem rowEvent_oneRowWaits {s : State} (h : s.OneRowWaits) : s.rowEvent.OneRowWaits := by
  unfold State.rowEvent
  split
  · dsimp only
    split
    · exact oneRowWaits_of_links (s := s.withLinks s.links.takenByExd) rfl h.exdTaken
    · exact h.exdTaken
  · exact h

theorem exdGap_oneRowWaits {s : State} (h : s.OneRowWaits) : s.exdGap.OneRowWaits := by
  unfold State.exdGap
  split
  · dsimp only
    split
    · exact oneRowWaits_of_links (s := s.withLinks s.links.takenByExd) rfl h.exdTaken
    · exact h.exdTaken
  · exact h

theorem stuRow_oneRowWaits {s : State} (h : s.OneRowWaits) : s.stuRow.OneRowWaits := by
  unfold State.stuRow
  split
  · next r _ =>
    split
    · dsimp only
      split
      · obtain ⟨_, _, hplace⟩ := placeSegment_frame ((s.withLinks s.links.takenByStu).withStu
          (s.stu.takeRow s.cmu.config r s.ext.openCount).1) (s.stu.takeRow s.cmu.config r s.ext.openCount).2
        rw [hplace]
        exact h.stuTaken
      · exact h.stuTaken
    · exact h
  · exact h

theorem stuGap_oneRowWaits {s : State} (h : s.OneRowWaits) : s.stuGap.OneRowWaits := by
  unfold State.stuGap
  split
  · dsimp only
    split <;> exact h.stuTaken
  · exact h

theorem exec_oneRowWaits (c : Instr) (s t : State) (hs : s.OneRowWaits) (h : exec c s = .next t) : t.OneRowWaits := by
  have hnone : rowCount [] ≤ 1 := Nat.zero_le 1
  cases c with
  | powerOnReset straps =>
    obtain rfl := Host.Outcome.next.inj h
    exact ⟨hnone, hnone⟩
  | sampleEvent =>
    obtain rfl := Host.Outcome.next.inj h
    exact sampleEvent_oneRowWaits hs
  | gapEvent =>
    obtain rfl := Host.Outcome.next.inj h
    exact gapEvent_oneRowWaits hs
  | rowEvent =>
    obtain rfl := Host.Outcome.next.inj h
    exact rowEvent_oneRowWaits hs
  | exdGapNotice =>
    obtain rfl := Host.Outcome.next.inj h
    exact exdGap_oneRowWaits hs
  | stuRowEvent =>
    obtain rfl := Host.Outcome.next.inj h
    exact stuRow_oneRowWaits hs
  | stuGapNotice =>
    obtain rfl := Host.Outcome.next.inj h
    exact stuGap_oneRowWaits hs
  | transmissionEnd =>
    obtain rfl := Host.Outcome.next.inj h
    exact readsOnly_oneRowWaits.transmissionEnd rfl (fun _ _ _ => ⟨hnone, hnone⟩) hs
  | _ => exact readsOnly_oneRowWaits.exec_untouched h rfl hs

/-! ### Every queue and every count -/

theorem exec_queuesBounded (c : Instr) (s t : State) (hs : s.QueuesBounded) (h : exec c s = .next t) : t.QueuesBounded where
  intake := exec_intake c s t hs.intake h
  commands := exec_commands c s t hs.commands h
  alerts := exec_alerts c s t hs.alerts h
  forward := exec_forward c s t hs.forward h
  responses := exec_responses c s t hs.responses h
  locations := keptByLocations_length.exec c s t hs.locations h
  segments := keptBySegments_length.exec c s t hs.segments h

theorem exec_countsBounded (c : Instr) (s t : State) (hs : s.CountsBounded) (h : exec c s = .next t) : t.CountsBounded where
  link := exec_counters c s t hs.link h
  commandsDiscarded := exec_discarded c s t hs.commandsDiscarded h
  forwardsDropped := exec_dropped c s t hs.forwardsDropped h
  skippedRows := exec_skipped c s t hs.skippedRows h
  locationLost := keptByLocations_lost.exec c s t hs.locationLost h
  segmentLost := keptBySegments_lost.exec c s t hs.segmentLost h
  exceptionsLost := exec_lost c s t hs.exceptionsLost h

end Sys2Proof.Machine

/-! The statement of the queues, the counts and the hand-overs settled. -/

namespace Sys2Proof.Proofs

open Sys2Proof Sys2Proof.Machine

/-- Settles O52: each queue, each count and each hand-over, followed through every command on its own. -/
theorem queuesAndCountsStayWithinTheirLimits : Obligations.QueuesAndCountsStayWithinTheirLimits := by
  unfold Obligations.QueuesAndCountsStayWithinTheirLimits
  refine ⟨fun s t => ?_, fun s t => ?_, fun s t => ?_, fun s t => ?_⟩
  · exact step_keeps (fun _ _ hq => { hq with }) exec_queuesBounded
  · exact step_keeps (fun _ _ hc => { hc with }) exec_countsBounded
  · exact readsOnly_handOverShaped.step rfl exec_handOverShaped
  · exact readsOnly_oneRowWaits.step rfl exec_oneRowWaits

end Sys2Proof.Proofs


/-! SUPPORT. The ranges of ODO's state and the odometer that never decreases (R56, R62, R64, R65, R70 to R72, R77, R81). -/

namespace Sys2Proof.Machine

/-! ### The filtered speed (R61, R62) -/

theorem filteredSpeed_le {beta vf v bound : Nat} (hvf : vf ≤ bound) (hv : v ≤ bound) :
    filteredSpeed beta vf v ≤ bound := by
  have hpow : (0 : Int) < ((2 ^ beta : Nat) : Int) := by exact_mod_cast Nat.two_pow_pos beta
  have hmove := tdiv_between_zero_and_self ((v : Int) - (vf : Int)) hpow
  unfold filteredSpeed trunc
  omega

theorem instantSpeed_le (d dt : Nat) : instantSpeed d dt ≤ 65535 := Nat.min_le_right ..

/-! ### The frame event's steps (R60 to R77) -/

theorem stepSpeed_inRange {o : Odo} (h : o.InRange) (c : ConfigRecord) (d dt : Nat) : (o.stepSpeed c d dt).InRange := by
  unfold Odo.stepSpeed
  split
  · exact h
  · exact { h with speed := filteredSpeed_le h.speed (instantSpeed_le d dt) }

theorem stepMotion_inRange {o : Odo} (h : o.InRange) (dn : Int) (d : Nat) : (o.stepMotion dn d).InRange := by
  unfold Odo.stepMotion
  split
  · exact { h with rollback := Nat.min_le_right .. }
  · split
    · exact { h with rollback := (Nat.sub_le ..).trans h.rollback }
    · exact { h with odometer := Nat.min_le_right .., rollback := Nat.zero_le _ }

theorem stepFrame_inRange {o : Odo} (h : o.InRange) (c : ConfigRecord) (measuring : Bool) (base new : CalFrame) :
    (o.stepFrame c measuring base new).InRange := by
  unfold Odo.stepFrame
  split
  · exact { h with }
  · exact stepMotion_inRange (stepSpeed_inRange h c _ _) _ _

/-- R70: past the grid points reached, N lies at most one grid step beyond the odometer. -/
theorem crossings_mul_le (o : Odo) (c : ConfigRecord) :
    o.n + o.crossings c * gridStep c ≤ max o.n (o.d + gridStep c) := by
  unfold Odo.crossings
  split
  · simp
  · next hd =>
    have hq : (o.d - o.n) / gridStep c * gridStep c ≤ o.d - o.n := Nat.div_mul_le_self ..
    rw [Nat.add_mul, Nat.one_mul]
    omega

/-- R33: the grid step of a spacing in its range. -/
theorem gridStep_le {c : ConfigRecord} (h : c.spacingMm ≤ 1000) : gridStep c ≤ 1000000 := by
  unfold gridStep
  omega

theorem stepGrid_inRange {o : Odo} (h : o.InRange) {c : ConfigRecord} (hc : c.spacingMm ≤ 1000) (measuring : Bool)
    (run : BitVec 8) (dOld : Nat) (base new : CalFrame) : (o.stepGrid c measuring run dOld base new).1.InRange := by
  have hpoint : o.n + o.crossings c * gridStep c ≤ 1099511627775 + 1000000 := by
    have hcross := crossings_mul_le o c
    have hstep := gridStep_le hc
    have hd := h.odometer
    have hn := h.point
    omega
  unfold Odo.stepGrid
  split
  · dsimp only
    split
    · exact { h with point := hpoint }
    · exact { h with point := hpoint }
  · exact h

theorem takeFrame_inRange {o : Odo} (h : o.InRange) {c : ConfigRecord} (hc : c.spacingMm ≤ 1000) (measuring : Bool)
    (run : BitVec 8) (new : CalFrame) : (o.takeFrame c measuring run new).1.InRange := by
  unfold Odo.takeFrame
  dsimp only
  split
  · exact { h with }
  · have hstart : ({ o with silenceTimer := some c.silenceMs } : Odo).InRange := { h with }
    exact { stepGrid_inRange (stepFrame_inRange hstart c measuring _ new) hc measuring run o.d _ new with }

theorem startNotice_inRange {o : Odo} (h : o.InRange) {c : ConfigRecord} (hc : c.spacingMm ≤ 1000) :
    (o.startNotice c).InRange :=
  { h with rollback := Nat.zero_le _, point := Nat.add_le_add h.odometer (gridStep_le hc) }

theorem afterReset_inRange {spacingMm : Nat} (h : spacingMm ≤ 1000) : (Odo.afterReset spacingMm).InRange where
  odometer := Nat.zero_le _
  rollback := Nat.zero_le _
  point := by
    show 1000 * spacingMm ≤ _
    omega
  speed := Nat.zero_le _

/-! ### The odometer never decreases (R64, R65) -/

theorem stepSpeed_d (o : Odo) (c : ConfigRecord) (d dt : Nat) : (o.stepSpeed c d dt).d = o.d := by
  unfold Odo.stepSpeed
  split <;> rfl

theorem le_stepMotion_d {o : Odo} (h : o.d ≤ 1099511627775) (dn : Int) (d : Nat) : o.d ≤ (o.stepMotion dn d).d := by
  unfold Odo.stepMotion
  split
  · exact le_rfl
  · split
    · exact le_rfl
    · exact le_min (Nat.le_add_right ..) h

theorem le_stepFrame_d {o : Odo} (h : o.d ≤ 1099511627775) (c : ConfigRecord) (measuring : Bool) (base new : CalFrame) :
    o.d ≤ (o.stepFrame c measuring base new).d := by
  unfold Odo.stepFrame
  split
  · exact le_rfl
  · rw [← stepSpeed_d o c (frameDistance c base new) (timeDifference base new)] at h ⊢
    exact le_stepMotion_d h _ _

theorem stepGrid_d (o : Odo) (c : ConfigRecord) (measuring : Bool) (run : BitVec 8) (dOld : Nat) (base new : CalFrame) :
    (o.stepGrid c measuring run dOld base new).1.d = o.d := by
  unfold Odo.stepGrid
  split
  · dsimp only
    split <;> rfl
  · rfl

theorem le_takeFrame_d {o : Odo} (h : o.d ≤ 1099511627775) (c : ConfigRecord) (measuring : Bool) (run : BitVec 8)
    (new : CalFrame) : o.d ≤ (o.takeFrame c measuring run new).1.d := by
  unfold Odo.takeFrame
  dsimp only
  split
  · exact le_rfl
  · next base _ =>
    have hstep : o.d ≤ (({ o with silenceTimer := some c.silenceMs } : Odo).stepFrame c measuring base new).d :=
      le_stepFrame_d (o := { o with silenceTimer := some c.silenceMs }) h c measuring base new
    exact hstep.trans (stepGrid_d _ c measuring run o.d base new).ge

/-! ### ODO across every command -/

/-- R58: a property of ODO that a frame taken keeps is kept by the frame event. -/
theorem frameEvent_odo {P : Odo → Prop} {s : State} (hs : P s.odo)
    (htake : ∀ new, P (s.odo.takeFrame s.cmu.config s.measuring s.cmu.runNumber new).1) : P s.frameEvent.odo := by
  cases hr : s.recordToTake with
  | none =>
    rw [frameEvent_of_no_record hr]
    exact hs
  | some new =>
    rw [frameEvent_of_record hr]
    exact htake new

/-- R79: the silence timer's expiry touches neither the odometer nor the rollback, the grid or the speed. -/
theorem expireSilence_frame (o : Odo) (measuring : Bool) : ∃ timer flag gap,
    o.expireSilence measuring = { o with silenceTimer := timer, silenceFlag := flag, gapPending := gap } := by
  unfold Odo.expireSilence
  split <;> exact ⟨_, _, _, rfl⟩

/-- R56: ODO's state in its ranges. -/
def State.OdoInRange (s : State) : Prop := s.odo.InRange

theorem readsOnly_odoInRange : ReadsOnly [.odo] State.OdoInRange := fun s t h hs => by
  rw [State.OdoInRange, show t.odo = s.odo from h .odo (by simp)]
  exact hs

/-- R33, R56: the spacing in its range and ODO's state in its ranges. -/
def State.OnItsGrid (s : State) : Prop := s.cmu.config.spacingMm ≤ 1000 ∧ s.odo.InRange

theorem readsOnly_onItsGrid : ReadsOnly [.config, .odo] State.OnItsGrid := fun s t h hs => by
  rw [State.OnItsGrid, show t.odo = s.odo from h .odo (by simp), show t.cmu.config = s.cmu.config from h .config (by simp)]
  exact hs

theorem startCommand_onItsGrid (e : CommandEntry) (s : State) (h : s.OnItsGrid) : (startCommand e s).1.OnItsGrid := by
  obtain ⟨_, _, _, _, hs⟩ := startCommand_frame e s
  rw [hs]
  exact ⟨h.1, startNotice_inRange h.2 h.1⟩

theorem resume_odoInRange (e : CommandEntry) (s : State) (h : s.OdoInRange) : (resume e s).1.OdoInRange := by
  obtain ⟨_, _, _, hs⟩ := resume_frame e s
  rw [hs]
  exact { h with rollback := Nat.zero_le _ }

theorem exec_odoInRange {c : Instr} {s t : State} (hset : s.SettingsLawful) (hs : s.odo.InRange) (h : exec c s = .next t) :
    t.odo.InRange := by
  have hspacing : s.cmu.config.spacingMm ≤ 1000 := hset.config.spacing.2
  cases c with
  | powerOnReset straps =>
    obtain rfl := Host.Outcome.next.inj h
    exact afterReset_inRange (by decide)
  | startCommand =>
    obtain rfl := Host.Outcome.next.inj h
    have hrun := readsOnly_onItsGrid.runCommand rfl startCommand_onItsGrid ⟨hspacing, hs⟩ (row := .startCommand)
      (allowed := onlyStopped)
    exact (readsOnly_onItsGrid _ _ (fun p hp => placeAborted_same (by rintro rfl; simp at hp) (by rintro rfl; simp at hp) _ s)
      hrun).2
  | resume =>
    obtain rfl := Host.Outcome.next.inj h
    exact readsOnly_odoInRange.runCommand rfl resume_odoInRange hs
  | frameEvent =>
    obtain rfl := Host.Outcome.next.inj h
    exact frameEvent_odo (P := Odo.InRange) hs fun new => takeFrame_inRange hs hspacing _ _ new
  | silenceExpiry =>
    obtain rfl := Host.Outcome.next.inj h
    obtain ⟨_, _, _, hexpire⟩ := expireSilence_frame s.odo s.measuring
    show (s.odo.expireSilence s.measuring).InRange
    rw [hexpire]
    exact { hs with }
  | transmissionEnd =>
    obtain rfl := Host.Outcome.next.inj h
    rcases transmissionEnd_cases s with ⟨⟨_, _, _, _, _, _, hend⟩, _⟩ | ⟨r, k, _, _, hend⟩
    · rw [hend]
      exact hs
    · rw [hend]
      have hreset := commandedReset_settingsLawful s.endFrameOnLane k (readsOnly_settingsLawful s _ (fun p hp => by
        fin_cases hp <;> rfl) hset)
      exact afterReset_inRange hreset.config.spacing.2
  | _ => exact readsOnly_odoInRange.exec_untouched h rfl hs

/-- R64: the odometer stands at least here. -/
def State.OdometerFrom (d : Nat) (s : State) : Prop := d ≤ s.odo.d

theorem readsOnly_odometerFrom (d : Nat) : ReadsOnly [.odo] (State.OdometerFrom d) := fun s t h hs => by
  rw [State.OdometerFrom, show t.odo = s.odo from h .odo (by simp)]
  exact hs

theorem startCommand_odometerFrom {d : Nat} (e : CommandEntry) (s : State) (h : s.OdometerFrom d) :
    (startCommand e s).1.OdometerFrom d := by
  obtain ⟨_, _, _, _, hs⟩ := startCommand_frame e s
  rw [hs]
  exact h

theorem resume_odometerFrom {d : Nat} (e : CommandEntry) (s : State) (h : s.OdometerFrom d) :
    (resume e s).1.OdometerFrom d := by
  obtain ⟨_, _, _, hs⟩ := resume_frame e s
  rw [hs]
  exact h

/-- R64: no command but a reset lowers the odometer. -/
theorem exec_le_odometer {c : Instr} {s t : State} (hd : s.odo.d ≤ 1099511627775) (h : exec c s = .next t)
    (hpower : ∀ straps, c ≠ .powerOnReset straps)
    (hreset : ¬(c = .transmissionEnd ∧ ∃ r, s.ltx.lane = .own (.response r) ∧ r.resets ≠ none)) : s.odo.d ≤ t.odo.d := by
  have hs : s.OdometerFrom s.odo.d := le_rfl
  have hreads := readsOnly_odometerFrom s.odo.d
  cases c with
  | powerOnReset straps => exact absurd rfl (hpower straps)
  | startCommand =>
    obtain rfl := Host.Outcome.next.inj h
    have hrun := hreads.runCommand rfl startCommand_odometerFrom hs (row := .startCommand) (allowed := onlyStopped)
    exact hreads _ _ (fun p hp => placeAborted_same (by rintro rfl; simp at hp) (by rintro rfl; simp at hp) _ s) hrun
  | resume =>
    obtain rfl := Host.Outcome.next.inj h
    exact hreads.runCommand rfl resume_odometerFrom hs
  | frameEvent =>
    obtain rfl := Host.Outcome.next.inj h
    exact frameEvent_odo (P := fun o => s.odo.d ≤ o.d) le_rfl fun new => le_takeFrame_d hd _ _ _ new
  | silenceExpiry =>
    obtain rfl := Host.Outcome.next.inj h
    obtain ⟨_, _, _, hexpire⟩ := expireSilence_frame s.odo s.measuring
    show s.odo.d ≤ (s.odo.expireSilence s.measuring).d
    rw [hexpire]
  | transmissionEnd =>
    obtain rfl := Host.Outcome.next.inj h
    rcases transmissionEnd_cases s with ⟨⟨_, _, _, _, _, _, hend⟩, _⟩ | ⟨r, k, hlane, hr, _⟩
    · rw [hend]
    · exact absurd ⟨rfl, r, hlane, by simp [hr]⟩ hreset
  | _ => exact hreads.exec_untouched h rfl hs

end Sys2Proof.Machine

/-! The statement of the odometer's range settled. -/

namespace Sys2Proof.Proofs

open Sys2Proof Sys2Proof.Machine

/-- Settles O55: the frame event step by step under a lawful spacing, and every other command by what it leaves of ODO. -/
theorem theOdometerStaysInRangeAndNeverDecreases : Obligations.TheOdometerStaysInRangeAndNeverDecreases := by
  unfold Obligations.TheOdometerStaysInRangeAndNeverDecreases
  refine ⟨fun s t hset hs h => ?_, fun c s t hd h hpower hreset => exec_le_odometer hd h hpower hreset⟩
  rcases step_cases h with ⟨_, rfl⟩ | ⟨c, rest, _, hc⟩
  · exact hs
  · exact exec_odoInRange (s := { s with pending := rest }) { hset with } hs hc

end Sys2Proof.Proofs


/-! SUPPORT. The mark table, the section table, the cursor and the offset across every command (R84, R88 to R92, R94, R95,
R98 to R102). -/

namespace Sys2Proof.Machine

/-! ### The offset and the cursor -/

theorem inPositionRange_iff (x : Int) : inPositionRange x = true ↔ -2147483648 ≤ x ∧ x ≤ 2147483647 := by
  simp [inPositionRange, Config.positionMin, Config.positionMax]

theorem Loc.Lawful.withoutCursor {l : Loc} (h : l.Lawful) : ({ l with cursor := none } : Loc).Lawful :=
  { h with cursor := nofun }

theorem nextEpoch_lawful {l : Loc} (h : l.Lawful) : l.nextEpoch.Lawful := { h with cursor := nofun }

theorem setPosition_lawful {l : Loc} (h : l.Lawful) {offset : Int} (hr : inPositionRange offset = true) :
    (l.setPosition offset).Lawful :=
  { nextEpoch_lawful h with offset := (inPositionRange_iff offset).mp hr }

theorem applyMark_lawful {l : Loc} (h : l.Lawful) (q : Nat) (m : Int) {delta : Int}
    (hr : inPositionRange (l.offset + delta) = true) : (l.applyMark q m delta).Lawful := by
  unfold Loc.applyMark
  split
  · exact { h with offset := (inPositionRange_iff _).mp hr }
  · exact { nextEpoch_lawful h with offset := (inPositionRange_iff _).mp hr }

/-- R94: whatever a mark is judged, LOC stays lawful. -/
theorem judgeMark_lawful {l : Loc} (h : l.Lawful) (q : Nat) (m : Int) : (l.judgeMark q m).1.Lawful := by
  unfold Loc.judgeMark
  split
  · exact h
  · dsimp only
    split
    · split
      · next hr => exact applyMark_lawful h q m hr
      · exact h
    · exact h

/-! ### The mark table (R90 to R92) -/

theorem markInsert_lawful {l : Loc} (h : l.Lawful) {q : Nat} {e : MarkEntry} (hq : 1 ≤ q ∧ q ≤ 65535)
    (hw : e.window ≤ 65535) (hroom : markEntry? l.marks q = none → l.marks.length < 256) :
    ({ l with marks := markInsert l.marks q e } : Loc).Lawful :=
  { h with
    markKeys := sorted_markInsert h.markKeys q e
    markIds := fun p hp => by
      rcases key_of_mem_markInsert hp with rfl | hold
      · exact ⟨hq.1, hq.2, hw⟩
      · exact h.markIds p hold
    markCount := by
      have hcount := h.markCount
      show (markInsert l.marks q e).length ≤ 256
      rw [length_markInsert h.markKeys]
      split
      · next hnone => exact hroom hnone
      · exact hcount }

theorem markSublist_lawful {l : Loc} (h : l.Lawful) {t : List (Nat × MarkEntry)} (ht : t.Sublist l.marks) :
    ({ l with marks := t } : Loc).Lawful :=
  { h with
    markKeys := h.markKeys.sublist ht
    markIds := fun p hp => h.markIds p (ht.subset hp)
    markCount := ht.length_le.trans h.markCount }

/-- R84: LOC lawful. -/
def State.LocLawful (s : State) : Prop := s.loc.Lawful

theorem writeMark_locLawful (e : CommandEntry) (s : State) (h : s.LocLawful) : (writeMark e s).1.LocLawful := by
  have hq : field e.args 0 2 < 65536 := field_lt ..
  have hw : field e.args 6 2 < 65536 := field_lt ..
  unfold writeMark
  dsimp only
  split
  · exact h
  · split
    · exact h
    · next hne hroom =>
      exact markInsert_lawful h ⟨by omega, by omega⟩ (Nat.le_of_lt_succ hw) fun hnone =>
        not_le.mp fun hfull => hroom ⟨hnone, hfull⟩

theorem deleteMark_locLawful (e : CommandEntry) (s : State) (h : s.LocLawful) : (deleteMark e s).1.LocLawful := by
  unfold deleteMark
  dsimp only
  split
  · exact h
  · split
    · exact h
    · exact markSublist_lawful h List.filter_sublist

theorem clearMarks_locLawful (e : CommandEntry) (s : State) (h : s.LocLawful) : (clearMarks e s).1.LocLawful :=
  markSublist_lawful h (List.nil_sublist _)

/-! ### The section table (R98, R99, R102) -/

/-- R99: a section carried spans more than a point. -/
theorem sectionEntry?_span {a : List Octet} {x : SectionEntry} (h : sectionEntry? a = some x) : x.start < x.finish := by
  unfold sectionEntry? at h
  split at h
  · split at h
    · cases h
    · obtain ⟨⟨hspan, _⟩, rfl⟩ := Option.ite_none_right_eq_some.mp h |>.imp id (Option.some.inj ·)
      exact hspan
  · cases h

/-- R98, R99: a section that starts at or past the end of the last one follows every one. -/
theorem precedes_of_in_order {l : Loc} (h : l.Lawful) {x : SectionEntry} (ho : ¬outOfOrder l.sections x = true) :
    ∀ a ∈ l.sections, a.Precedes x := by
  intro a ha
  have hspan := h.sectionSpan a ha
  have hfinish : a.finish ≤ x.start := by
    unfold outOfOrder at ho
    split at ho
    · next hnone =>
      rw [List.getLast?_eq_none_iff.mp hnone] at ha
      exact absurd ha List.not_mem_nil
    · next tail hlast =>
      have htail : tail.finish ≤ x.start := by simpa using ho
      obtain ⟨front, hl⟩ := List.getLast?_eq_some_iff.mp hlast
      rw [hl] at ha
      rcases List.mem_append.mp ha with hfront | hself
      · have horder := h.sectionOrder
        rw [hl] at horder
        obtain ⟨_, _, hcross⟩ := List.pairwise_append.mp horder
        have hbefore := hcross a hfront tail (List.mem_singleton_self tail)
        have htailSpan := h.sectionSpan tail (hl ▸ List.mem_append_right _ (List.mem_singleton_self tail))
        exact hbefore.2.trans (htailSpan.le.trans htail)
      · rw [List.mem_singleton.mp hself]
        exact htail
  exact ⟨hspan.trans_le hfinish, hfinish⟩

/-- R99, R102: a section table replaced takes the cursor with it. -/
theorem sections_lawful {l : Loc} (h : l.Lawful) {t : List SectionEntry} (horder : t.Pairwise SectionEntry.Precedes)
    (hspan : ∀ x ∈ t, x.start < x.finish) (hcount : t.length ≤ 512) :
    ({ l with sections := t, cursor := none } : Loc).Lawful :=
  { h with sectionOrder := horder, sectionSpan := hspan, sectionCount := hcount, cursor := nofun }

theorem appendSection_locLawful (e : CommandEntry) (s : State) (h : s.LocLawful) : (appendSection e s).1.LocLawful := by
  unfold appendSection
  split
  · exact h
  · next x hx =>
    split
    · exact h
    · next horder =>
      split
      · exact h
      · next hroom =>
        have hcount : s.loc.sections.length < 512 := not_le.mp hroom
        refine sections_lawful h (List.pairwise_append.mpr ⟨h.sectionOrder, List.pairwise_singleton .., ?_⟩) ?_ ?_
        · intro a ha b hb
          rw [List.mem_singleton.mp hb]
          exact precedes_of_in_order h horder a ha
        · intro y hy
          rcases List.mem_append.mp hy with hold | hnew
          · exact h.sectionSpan y hold
          · rw [List.mem_singleton.mp hnew]
            exact sectionEntry?_span hx
        · rw [List.length_append]
          exact hcount

theorem clearSections_locLawful (e : CommandEntry) (s : State) (h : s.LocLawful) : (clearSections e s).1.LocLawful :=
  sections_lawful h .nil nofun (Nat.zero_le 512)

/-! ### A sample at LOC (R86, R100, R101) -/

/-- R100: retirement keeps a tail of the section table, the cursor moving back with it. -/
theorem retire_lawful {l : Loc} (h : l.Lawful) (position : Int) : (l.retire position).Lawful := by
  have hsuffix : (l.sections.dropWhile fun x => x.retired position).Sublist l.sections :=
    (List.dropWhile_suffix _).sublist
  exact { h with
    sectionOrder := h.sectionOrder.sublist hsuffix
    sectionSpan := fun x hx => h.sectionSpan x (hsuffix.subset hx)
    sectionCount := hsuffix.length_le.trans h.sectionCount
    cursor := fun k hk => by
      obtain ⟨k0, hk0, rfl⟩ := Option.map_eq_some_iff.mp hk
      have hle := h.cursor k0 hk0
      have hlen := hsuffix.length_le
      show k0 - _ ≤ (l.sections.dropWhile fun x => x.retired position).length
      omega }

theorem scan_le {l : Loc} (h : l.Lawful) (position : Int) : l.scan position ≤ l.sections.length := by
  have hstart : l.cursor.getD 0 ≤ l.sections.length := by
    cases hc : l.cursor with
    | none => exact Nat.zero_le _
    | some k => exact h.cursor k hc
  have hstep := (List.takeWhile_prefix (fun x : SectionEntry => decide (x.finish ≤ position))
    (l := l.sections.drop (l.cursor.getD 0))).length_le
  rw [List.length_drop] at hstep
  unfold Loc.scan
  omega

theorem lookup_lawful {l : Loc} (h : l.Lawful) (position : Int) : (l.lookup position).1.Lawful :=
  { h with cursor := fun _ hk => (Option.some.inj hk) ▸ scan_le h position }

theorem takeSample_lawful {l : Loc} (h : l.Lawful) (defaultBand : Fin 5) (x : Sample) :
    (l.takeSample defaultBand x).1.Lawful := by
  unfold Loc.takeSample
  split
  · exact lookup_lawful (retire_lawful h _) _
  · exact h

/-! ### LOC across every command -/

theorem readsOnly_locLawful : ReadsOnly [.loc] State.LocLawful := fun s t h hs => by
  rw [State.LocLawful, show t.loc = s.loc from h .loc (by simp)]
  exact hs

theorem setPosition_locLawful (e : CommandEntry) (s : State) (h : s.LocLawful) : (setPosition e s).1.LocLawful := by
  unfold setPosition
  dsimp only
  split
  · next hr =>
    obtain ⟨_, _, hemit⟩ := emitLocation_frame (s.withLoc (s.loc.setPosition (signedField e.args 0 4 - s.odo.measured)))
      (.positionSet (clampPosition (signedField e.args 0 4 - s.odo.measured - s.loc.offset))) s.odo.measured
    rw [hemit]
    exact setPosition_lawful h hr
  · exact h

/-- R95: losing the location takes the cursor with it. -/
theorem loseLocationIfRolledBack_locLawful {s : State} (h : s.LocLawful) : s.loseLocationIfRolledBack.LocLawful := by
  unfold State.loseLocationIfRolledBack State.locationLost
  split
  · obtain ⟨_, _, hemit⟩ := emitLocation_frame (s.withLoc { s.loc with located := false, cursor := none })
      (.locationLost s.loc.located) s.odo.measured
    rw [hemit]
    exact { h.withoutCursor with }
  · exact h

theorem startCommand_locLawful (e : CommandEntry) (s : State) (h : s.LocLawful) : (startCommand e s).1.LocLawful := by
  have hloc : (startCommand e s).1.loc = (s.withCmu s.cmu.enterMeasuring).loseLocationIfRolledBack.loc := by
    unfold startCommand State.startRun State.startOdometry
    dsimp only
    generalize (s.withCmu s.cmu.enterMeasuring).loseLocationIfRolledBack = u
    rfl
  rw [State.LocLawful, hloc]
  exact loseLocationIfRolledBack_locLawful (s := s.withCmu s.cmu.enterMeasuring) h

theorem resume_locLawful (e : CommandEntry) (s : State) (h : s.LocLawful) : (resume e s).1.LocLawful := by
  have hloc : (resume e s).1.loc = (s.withCmu s.cmu.enterMeasuring).loseLocationIfRolledBack.loc := rfl
  rw [State.LocLawful, hloc]
  exact loseLocationIfRolledBack_locLawful (s := s.withCmu s.cmu.enterMeasuring) h

theorem markHandoff_locLawful {s : State} (h : s.LocLawful) : s.markHandoff.LocLawful := by
  unfold State.markHandoff
  split
  · next q m _ =>
    dsimp only
    split
    · exact h
    · obtain ⟨_, _, hemit⟩ := emitLocation_frame (s.dropLocItem.withLoc (s.loc.judgeMark q m).1) (s.loc.judgeMark q m).2 m
      rw [hemit]
      exact judgeMark_lawful h q m
  · exact h

theorem locSample_locLawful {s : State} (h : s.LocLawful) : s.locSample.LocLawful := by
  unfold State.locSample
  split
  · split
    · exact takeSample_lawful h _ _
    · exact h
  · exact h

theorem cold_lawful : Loc.cold.Lawful where
  markKeys := .nil
  markIds := nofun
  markCount := Nat.zero_le 256
  sectionOrder := .nil
  sectionSpan := nofun
  sectionCount := Nat.zero_le 512
  cursor := nofun
  offset := by decide

theorem commandedReset_locLawful (s : State) (k : ResetKind) (h : s.LocLawful) : (s.commandedReset k).LocLawful := by
  cases k with
  | cold => exact cold_lawful
  | warm =>
    have hzero : (-2147483648 : Int) ≤ 0 ∧ (0 : Int) ≤ 2147483647 := by decide
    exact { h with cursor := nofun, offset := hzero }

theorem exec_locLawful (c : Instr) (s t : State) (hs : s.LocLawful) (h : exec c s = .next t) : t.LocLawful := by
  cases c with
  | powerOnReset straps =>
    obtain rfl := Host.Outcome.next.inj h
    exact cold_lawful
  | startCommand =>
    obtain rfl := Host.Outcome.next.inj h
    have hrun := readsOnly_locLawful.runCommand rfl startCommand_locLawful hs (row := .startCommand) (allowed := onlyStopped)
    exact readsOnly_locLawful _ _ (fun p hp => placeAborted_same (by rintro rfl; simp at hp) (by rintro rfl; simp at hp) _ s)
      hrun
  | resume =>
    obtain rfl := Host.Outcome.next.inj h
    exact readsOnly_locLawful.runCommand rfl resume_locLawful hs
  | setPosition =>
    obtain rfl := Host.Outcome.next.inj h
    exact readsOnly_locLawful.runCommand rfl setPosition_locLawful hs
  | writeMark =>
    obtain rfl := Host.Outcome.next.inj h
    exact readsOnly_locLawful.runCommand rfl writeMark_locLawful hs
  | deleteMark =>
    obtain rfl := Host.Outcome.next.inj h
    exact readsOnly_locLawful.runCommand rfl deleteMark_locLawful hs
  | clearMarks =>
    obtain rfl := Host.Outcome.next.inj h
    exact readsOnly_locLawful.runCommand rfl clearMarks_locLawful hs
  | appendSection =>
    obtain rfl := Host.Outcome.next.inj h
    exact readsOnly_locLawful.runCommand rfl appendSection_locLawful hs
  | clearSections =>
    obtain rfl := Host.Outcome.next.inj h
    exact readsOnly_locLawful.runCommand rfl clearSections_locLawful hs
  | markHandoff =>
    obtain rfl := Host.Outcome.next.inj h
    exact markHandoff_locLawful hs
  | locSample =>
    obtain rfl := Host.Outcome.next.inj h
    exact locSample_locLawful hs
  | transmissionEnd =>
    obtain rfl := Host.Outcome.next.inj h
    exact readsOnly_locLawful.transmissionEnd rfl commandedReset_locLawful hs
  | _ => exact readsOnly_locLawful.exec_untouched h rfl hs

end Sys2Proof.Machine

/-! The statement of LOC's tables settled. -/

namespace Sys2Proof.Proofs

open Sys2Proof Sys2Proof.Machine

/-- Settles O56: each command that writes LOC, by the table, the cursor or the offset it writes. -/
theorem locationTablesStayLawful : Obligations.LocationTablesStayLawful := by
  unfold Obligations.LocationTablesStayLawful
  exact fun s t => readsOnly_locLawful.step rfl exec_locLawful

end Sys2Proof.Proofs


/-! SUPPORT. The history, the baselines and the accumulators across every command (R104, R110 to R112, R117, R119, R125, R127,
R176, R178, R181). -/

namespace Sys2Proof.Machine

/-! ### Values within 1,000,000 counts of 0 (R104) -/

/-- R104: a value in the range of parameters and baselines. -/
def InValueRange (x : Int) : Prop := -1000000 ≤ x ∧ x ≤ 1000000

theorem limited_value_inRange (x : Int) (saturated : Bool) : InValueRange (limited x saturated).value := by
  rw [limited_eq]
  unfold InValueRange
  dsimp only
  omega

theorem compute_inRange (e : ParameterEntry) (table : Vector ChannelEntry 12) (x : Sample) :
    InValueRange (e.compute table x).value := by
  unfold ParameterEntry.compute
  split
  · exact ⟨by decide, by decide⟩
  · exact limited_value_inRange _ _

theorem getElem_ofFn_fin {α : Type} {n : Nat} (f : Fin n → α) (i : Fin n) : (Vector.ofFn f)[i] = f i := by simp

theorem getElem_replicate_fin {α : Type} {n : Nat} (a : α) (i : Fin n) : (Vector.replicate n a)[i] = a := by simp

/-! ### The history and the baselines (R111, R112, R125) -/

theorem clear_lawful (x : Mse) : x.clear.Lawful where
  slots i t h := by rw [Mse.clear, getElem_replicate_fin] at h; cases h
  newest _ h := by cases h
  values i t h := by rw [Mse.clear, getElem_replicate_fin] at h; cases h
  baselines m b h := by rw [Mse.clear, getElem_replicate_fin] at h; cases h

/-- R112: the law reads the history, the newest index and the baselines, not the tables. -/
theorem lawful_of_records {x y : Mse} (h : x.Lawful) (hh : y.history = x.history) (hn : y.newest = x.newest)
    (hb : ∀ (m : Fin 16) (b : Int), y.baselines[m] = some b → InValueRange b) : y.Lawful where
  slots := hh ▸ h.slots
  newest := hh ▸ hn ▸ h.newest
  values := hh ▸ h.values
  baselines := hb

theorem writeSample_lawful {x : Mse} (h : x.Lawful) (table : Vector ChannelEntry 12) (y : LocatedSample) :
    (x.writeSample table y).Lawful where
  slots i t ht := by
    rw [Mse.writeSample, getElem_set_fin] at ht
    split at ht
    · next hi =>
      obtain rfl := Option.some.inj ht
      rw [hi]
      rfl
    · exact h.slots i t ht
  newest i hi := by
    obtain rfl := Option.some.inj hi
    exact ⟨x.slotOf table y, by rw [Mse.writeSample, getElem_set_fin, if_pos rfl], rfl⟩
  values i t ht p := by
    rw [Mse.writeSample, getElem_set_fin] at ht
    split at ht
    · obtain rfl := Option.some.inj ht
      have hp : (x.slotOf table y).parameters[p] = (x.parameters[p]).compute table y.sample := getElem_ofFn_fin _ p
      rw [hp]
      exact compute_inRange _ _ _
    · exact h.values i t ht p
  baselines := h.baselines

theorem read_inRange {x : Mse} (h : x.Lawful) {p : Fin 10} {j : Int} {q : Quantity} (hq : x.read p j = some q) :
    InValueRange q.value := by
  obtain ⟨t, ht, rfl, _⟩ := read_eq_some.mp hq
  obtain ⟨_, hslot, _⟩ := slotAt_eq_some.mp ht
  exact h.values _ t hslot p

/-- R125: a baseline stays between what it was and the parameter's value. -/
theorem nextBaseline_inRange {b : Option Int} {p : Option Quantity} (hb : ∀ v, b = some v → InValueRange v)
    (hp : ∀ q, p = some q → InValueRange q.value) (beta : Nat) (halted : Bool) (v : Int)
    (h : nextBaseline b p beta halted = some v) : InValueRange v := by
  cases p with
  | none =>
    rw [nextBaseline_of_absent] at h
    exact hb v h
  | some q =>
    cases b with
    | none =>
      obtain rfl := Option.some.inj h
      exact hp q rfl
    | some before =>
      cases halted with
      | true => exact hb v h
      | false =>
        rw [nextBaseline_of_running] at h
        obtain rfl := Option.some.inj h
        obtain ⟨hlow, hhigh⟩ := hb before rfl
        obtain ⟨hqlow, hqhigh⟩ := hp q rfl
        have hmove := baseline_moves_toward before q.value beta
        unfold InValueRange
        omega

theorem baselineAfter_inRange {x : Mse} (h : x.Lawful) (detectors : Vector Detector 16) (m : Fin 16) (o : Int) (v : Int)
    (hv : x.baselineAfter detectors m o = some v) : InValueRange v := by
  unfold Mse.baselineAfter at hv
  split at hv
  · exact nextBaseline_inRange (h.baselines m) (fun _ hq => read_inRange h hq) _ _ v hv
  · exact nextBaseline_inRange (h.baselines m) (fun _ hq => read_inRange h hq) _ _ v hv
  · exact h.baselines m v hv

theorem takeSample_lawful_mse {x : Mse} (h : x.Lawful) (table : Vector ChannelEntry 12) (detectors : Vector Detector 16)
    (delay : Nat) (y : LocatedSample) : (x.takeSample table detectors delay y).1.Lawful := by
  have hwrite := writeSample_lawful h table y
  unfold Mse.takeSample
  dsimp only
  split
  · exact hwrite
  · refine lawful_of_records hwrite rfl rfl fun m b hb => ?_
    rw [Mse.updateBaselines, getElem_ofFn_fin] at hb
    exact baselineAfter_inRange hwrite detectors m _ b hb

/-! ### MSE across every command -/

/-- R104, R110, R111, R119: MSE lawful. -/
def State.MseLawful (s : State) : Prop := s.mse.Lawful

theorem readsOnly_mseLawful : ReadsOnly [.mse] State.MseLawful := fun s t h hs => by
  rw [State.MseLawful, show t.mse = s.mse from h .mse (by simp)]
  exact hs

theorem startCommand_mseLawful (e : CommandEntry) (s : State) (_ : s.MseLawful) : (startCommand e s).1.MseLawful := by
  obtain ⟨_, _, _, _, hs⟩ := startCommand_frame e s
  rw [hs]
  exact clear_lawful s.mse

theorem writeParameter_mseLawful (e : CommandEntry) (s : State) (h : s.MseLawful) : (writeParameter e s).1.MseLawful := by
  unfold writeParameter
  split
  · split
    · exact h
    · exact lawful_of_records h rfl rfl h.baselines
  · exact h

theorem writeMeasure_mseLawful (e : CommandEntry) (s : State) (h : s.MseLawful) : (writeMeasure e s).1.MseLawful := by
  unfold writeMeasure
  split
  · next hm =>
    split
    · exact h
    · refine lawful_of_records h rfl rfl fun m b hb => ?_
      have hset : (s.mse.baselines.set (field e.args 0 1) none hm)[m] = some b := hb
      rw [getElem_set_fin s.mse.baselines ⟨field e.args 0 1, hm⟩ m] at hset
      split at hset
      · cases hset
      · exact h.baselines m b hset
  · exact h

theorem rebase_mseLawful (e : CommandEntry) (s : State) (h : s.MseLawful) : (rebase e s).1.MseLawful := by
  refine lawful_of_records h rfl rfl fun m b hb => ?_
  rw [rebase, State.withMse, getElem_ofFn_fin] at hb
  split at hb
  · cases hb
  · exact h.baselines m b hb

theorem sampleEvent_mseLawful {s : State} (h : s.MseLawful) : s.sampleEvent.MseLawful := by
  unfold State.sampleEvent
  split
  · next y _ =>
    dsimp only
    split
    · have htake := takeSample_lawful_mse h s.cal.channels s.exd.detectors s.cmu.config.alignDelay y
      split
      · exact htake
      · exact htake
    · exact h
  · exact h

theorem gapEvent_mseLawful {s : State} (h : s.MseLawful) : s.gapEvent.MseLawful := by
  unfold State.gapEvent
  split
  · split
    · exact clear_lawful s.mse
    · exact h
  · exact h

theorem cold_mse_lawful : Mse.cold.Lawful := clear_lawful Mse.cold

theorem commandedReset_mseLawful (s : State) (k : ResetKind) (_ : s.MseLawful) : (s.commandedReset k).MseLawful := by
  cases k with
  | cold => exact cold_mse_lawful
  | warm => exact clear_lawful s.mse

theorem exec_mseLawful (c : Instr) (s t : State) (hs : s.MseLawful) (h : exec c s = .next t) : t.MseLawful := by
  cases c with
  | powerOnReset straps =>
    obtain rfl := Host.Outcome.next.inj h
    exact cold_mse_lawful
  | startCommand =>
    obtain rfl := Host.Outcome.next.inj h
    have hrun := readsOnly_mseLawful.runCommand rfl startCommand_mseLawful hs (row := .startCommand) (allowed := onlyStopped)
    exact readsOnly_mseLawful _ _ (fun p hp => placeAborted_same (by rintro rfl; simp at hp) (by rintro rfl; simp at hp) _ s)
      hrun
  | writeParameter =>
    obtain rfl := Host.Outcome.next.inj h
    exact readsOnly_mseLawful.runCommand rfl writeParameter_mseLawful hs
  | writeMeasure =>
    obtain rfl := Host.Outcome.next.inj h
    exact readsOnly_mseLawful.runCommand rfl writeMeasure_mseLawful hs
  | rebase =>
    obtain rfl := Host.Outcome.next.inj h
    exact readsOnly_mseLawful.runCommand rfl rebase_mseLawful hs
  | sampleEvent =>
    obtain rfl := Host.Outcome.next.inj h
    exact sampleEvent_mseLawful hs
  | gapEvent =>
    obtain rfl := Host.Outcome.next.inj h
    exact gapEvent_mseLawful hs
  | transmissionEnd =>
    obtain rfl := Host.Outcome.next.inj h
    exact readsOnly_mseLawful.transmissionEnd rfl commandedReset_mseLawful hs
  | _ => exact readsOnly_mseLawful.exec_untouched h rfl hs

/-! ### The accumulators (R176, R178, R181) -/

theorem zero_inRange : Accumulators.zero.InRange := ⟨by decide, by decide, by decide, by decide, by decide⟩

/-- R178: a row that counts keeps the accumulators in their widths, and leaves them a peak. -/
theorem add_inRange {a : Accumulators} (_ : a.InRange) (x : Int) (row : RowRef) (k : Bool) : (a.add x row k).InRange where
  n := Nat.min_le_right ..
  sum := by
    obtain ⟨hlow, hhigh, _⟩ := clamp_spec (x := a.sum + x) (show Config.sumMin ≤ Config.sumMax by decide)
    exact ⟨hlow, hhigh⟩
  sumSq := Nat.min_le_right ..
  count := Nat.min_le_right ..
  peak := by
    have hpos : (a.add x row k).n ≠ 0 := by
      show min (a.n + 1) Config.wideCountMax ≠ 0
      unfold Config.wideCountMax
      omega
    exact iff_of_false hpos (Option.some_ne_none _)

/-- R178: every slot's accumulators in their widths. -/
def Stu.InRange (x : Stu) : Prop := ∀ i : Fin 8, (x.accumulators[i]).InRange

theorem clearAccumulators_inRange (x : Stu) : x.clearAccumulators.InRange := fun i => by
  rw [Stu.clearAccumulators, getElem_replicate_fin]
  exact zero_inRange

theorem countRow_inRange {x : Stu} (h : x.InRange) (r : Row) (openCount : Nat) : (x.countRow r openCount).InRange := by
  unfold Stu.countRow
  split
  · exact h
  · intro i
    rw [getElem_ofFn_fin]
    unfold Stu.accumulatorsAfter
    split
    · exact h i
    · exact add_inRange (h i) _ _ _

theorem segmentTest_inRange {x : Stu} (h : x.InRange) (c : ConfigRecord) (r : Row) : (x.segmentTest c r).1.InRange := by
  unfold Stu.segmentTest
  split
  · exact clearAccumulators_inRange x
  · split
    · exact clearAccumulators_inRange x
    · split
      · exact h
      · exact clearAccumulators_inRange x

theorem setSlot_inRange {x : Stu} (h : x.InRange) (i : Fin 8) (e : SlotEntry) : (x.setSlot i e).InRange := fun j => by
  rw [Stu.setSlot, getElem_set_fin]
  split
  · exact zero_inRange
  · exact h j

/-! ### STU across every command -/

/-- R178: STU's accumulators in their widths. -/
def State.StuInRange (s : State) : Prop := s.stu.InRange

theorem readsOnly_stuInRange : ReadsOnly [.accumulators] State.StuInRange := fun s t h hs i => by
  rw [show t.stu.accumulators = s.stu.accumulators from h .accumulators (by simp)]
  exact hs i

theorem startCommand_stuInRange (e : CommandEntry) (s : State) (_ : s.StuInRange) : (startCommand e s).1.StuInRange := by
  obtain ⟨_, _, _, _, hs⟩ := startCommand_frame e s
  rw [hs]
  exact clearAccumulators_inRange s.stu

theorem writeSlot_stuInRange (e : CommandEntry) (s : State) (h : s.StuInRange) : (writeSlot e s).1.StuInRange := by
  unfold writeSlot
  split
  · split
    · exact h
    · exact setSlot_inRange h _ _
  · exact h

theorem resetStats_stuInRange (e : CommandEntry) (s : State) (_ : s.StuInRange) : (resetStats e s).1.StuInRange :=
  clearAccumulators_inRange s.stu

theorem stuRow_stuInRange {s : State} (h : s.StuInRange) : s.stuRow.StuInRange := by
  unfold State.stuRow
  split
  · next r _ =>
    split
    · dsimp only
      split
      · obtain ⟨_, _, hplace⟩ := placeSegment_frame ((s.withLinks s.links.takenByStu).withStu
          (s.stu.takeRow s.cmu.config r s.ext.openCount).1) (s.stu.takeRow s.cmu.config r s.ext.openCount).2
        rw [hplace]
        exact countRow_inRange (segmentTest_inRange h s.cmu.config r) r s.ext.openCount
      · exact h
    · exact h
  · exact h

theorem cold_stu_inRange : Stu.cold.InRange := clearAccumulators_inRange Stu.cold

theorem commandedReset_stuInRange (s : State) (k : ResetKind) (_ : s.StuInRange) : (s.commandedReset k).StuInRange := by
  cases k <;> exact cold_stu_inRange

theorem exec_stuInRange (c : Instr) (s t : State) (hs : s.StuInRange) (h : exec c s = .next t) : t.StuInRange := by
  cases c with
  | powerOnReset straps =>
    obtain rfl := Host.Outcome.next.inj h
    exact cold_stu_inRange
  | startCommand =>
    obtain rfl := Host.Outcome.next.inj h
    have hrun := readsOnly_stuInRange.runCommand rfl startCommand_stuInRange hs (row := .startCommand) (allowed := onlyStopped)
    exact readsOnly_stuInRange _ _ (fun p hp => placeAborted_same (by rintro rfl; simp at hp) (by rintro rfl; simp at hp) _ s)
      hrun
  | writeSlot =>
    obtain rfl := Host.Outcome.next.inj h
    exact readsOnly_stuInRange.runCommand rfl writeSlot_stuInRange hs
  | resetStats =>
    obtain rfl := Host.Outcome.next.inj h
    exact readsOnly_stuInRange.runCommand rfl resetStats_stuInRange hs
  | stuRowEvent =>
    obtain rfl := Host.Outcome.next.inj h
    exact stuRow_stuInRange hs
  | transmissionEnd =>
    obtain rfl := Host.Outcome.next.inj h
    exact readsOnly_stuInRange.transmissionEnd rfl commandedReset_stuInRange hs
  | _ => exact readsOnly_stuInRange.exec_untouched h rfl hs

end Sys2Proof.Machine

/-! The statement of the history and the statistics settled. -/

namespace Sys2Proof.Proofs

open Sys2Proof Sys2Proof.Machine

/-- Settles O58: MSE by the slot, the newest index and the baselines each command writes, STU by its accumulators. -/
theorem historyAndStatisticsStayInRange : Obligations.HistoryAndStatisticsStayInRange := by
  unfold Obligations.HistoryAndStatisticsStayInRange
  exact ⟨fun s t => readsOnly_mseLawful.step rfl exec_mseLawful, fun s t => readsOnly_stuInRange.step rfl exec_stuInRange⟩

end Sys2Proof.Proofs


/-! SUPPORT. The row-block buffers, the closing order and the lane across every command (R184, R186, R187, R193, R194). -/

namespace Sys2Proof.Machine

/-! ### One buffer moved -/

/-- R193: at most one buffer is OPEN, said of any two. -/
theorem Ltx.BuffersLawful.not_both_filling {l : Ltx} (h : l.BuffersLawful) {i j : Fin 2} (hne : i ≠ j) (b c : Block)
    (hi : l.buffers[i] = .filling b) : l.buffers[j] ≠ .filling c := by
  intro hj
  match i, j with
  | 0, 0 => exact hne rfl
  | 0, 1 => exact h.oneOpen b c ⟨hi, hj⟩
  | 1, 0 => exact h.oneOpen c b ⟨hj, hi⟩
  | 1, 1 => exact hne rfl

/-- What the law of the buffers asks of a buffer that changes, the closing order and the lane changing with it. -/
structure Ltx.BufferMoved (l m : Ltx) (i : Fin 2) (x : Buffer) : Prop where
  buffers : m.buffers = l.buffers.set i.val x
  filling : ∀ b, x = .filling b → (b.Lawful ∧ b.rows.length < b.effectiveSize) ∧
    ∀ j : Fin 2, j ≠ i → ∀ c, l.buffers[j] ≠ .filling c
  pending : ∀ b, x = .pending b → b.Lawful
  sending : (∃ b, x = .sending b) ↔ m.lane = .own (.rows i)
  laneOther : ∀ j : Fin 2, j ≠ i → (m.lane = .own (.rows j) ↔ l.lane = .own (.rows j))
  order : i ∈ m.closedOrder ↔ ∃ b, x = .pending b
  orderOther : ∀ j : Fin 2, j ≠ i → (j ∈ m.closedOrder ↔ j ∈ l.closedOrder)
  distinct : m.closedOrder.Nodup

theorem Ltx.BuffersLawful.moved {l m : Ltx} (h : l.BuffersLawful) {i : Fin 2} {x : Buffer} (hm : l.BufferMoved m i x) :
    m.BuffersLawful := by
  have hself : m.buffers[i] = x := by rw [hm.buffers, getElem_set_fin, if_pos rfl]
  have hother : ∀ j : Fin 2, j ≠ i → m.buffers[j] = l.buffers[j] := fun j hj => by
    rw [hm.buffers, getElem_set_fin, if_neg hj]
  have hopen : ∀ j k : Fin 2, j ≠ k → ∀ b c, m.buffers[j] = .filling b → m.buffers[k] ≠ .filling c := by
    intro j k hjk b c hj hk
    by_cases hji : j = i
    · subst hji
      exact (hm.filling b (hself ▸ hj)).2 k hjk.symm c (hother k hjk.symm ▸ hk)
    · by_cases hki : k = i
      · subst hki
        exact (hm.filling c (hself ▸ hk)).2 j hji b (hother j hji ▸ hj)
      · exact h.not_both_filling hjk b c (hother j hji ▸ hj) (hother k hki ▸ hk)
  refine ⟨fun j b hj => ?_, fun j b hj => ?_, fun j => ?_, fun b c hbc => ?_, hm.distinct, fun j => ?_⟩
  · by_cases hji : j = i
    · subst hji
      exact (hm.filling b (hself ▸ hj)).1
    · exact h.filling j b (hother j hji ▸ hj)
  · by_cases hji : j = i
    · subst hji
      exact hm.pending b (hself ▸ hj)
    · exact h.pending j b (hother j hji ▸ hj)
  · by_cases hji : j = i
    · subst hji
      rw [hself]
      exact hm.sending
    · rw [hother j hji, hm.laneOther j hji]
      exact h.sending j
  · exact hopen 0 1 (by decide) b c hbc.1 hbc.2
  · by_cases hji : j = i
    · subst hji
      rw [hself]
      exact hm.order
    · rw [hother j hji, hm.orderOther j hji]
      exact h.orderExactly j

/-- R190: the law reads the buffers, the closing order, and whether the lane sends ROWS. -/
theorem Ltx.BuffersLawful.of_lane {l m : Ltx} (h : l.BuffersLawful) (hb : m.buffers = l.buffers)
    (ho : m.closedOrder = l.closedOrder) (hl : ∀ i, m.lane = .own (.rows i) ↔ l.lane = .own (.rows i)) : m.BuffersLawful where
  filling := hb ▸ h.filling
  pending := hb ▸ h.pending
  sending i := by rw [hb, hl]; exact h.sending i
  oneOpen := hb ▸ h.oneOpen
  orderDistinct := ho ▸ h.orderDistinct
  orderExactly i := by rw [hb, ho]; exact h.orderExactly i

/-! ### The moves (R186, R187, R193, R194) -/

theorem closeBuffer_lawful {l : Ltx} (h : l.BuffersLawful) (i : Fin 2) : (l.closeBuffer i).BuffersLawful := by
  rcases closeBuffer_cases l i with ⟨_, hc⟩ | ⟨b, hb, hc⟩
  · rw [hc]
    exact h
  · rw [hc]
    have hnot : i ∉ l.closedOrder := fun hmem => by
      obtain ⟨c, hpending⟩ := (h.orderExactly i).mp hmem
      rw [hb] at hpending
      cases hpending
    have hlane : l.lane ≠ .own (.rows i) := fun hrows => by
      obtain ⟨c, hsending⟩ := (h.sending i).mpr hrows
      rw [hb] at hsending
      cases hsending
    exact h.moved
      { buffers := rfl
        filling := nofun
        pending := fun c hc => Buffer.pending.inj hc ▸ (h.filling i b hb).1
        sending := iff_of_false (by simp) hlane
        laneOther := fun _ _ => .rfl
        order := iff_of_true (by simp) ⟨b, rfl⟩
        orderOther := fun j hj => by simp [hj]
        distinct := nodup_append_singleton h.orderDistinct hnot }

theorem closeBlock_lawful {l : Ltx} (h : l.BuffersLawful) : l.closeBlock.BuffersLawful :=
  closeBuffer_lawful (closeBuffer_lawful h 0) 1

/-- R193: a block placed OPEN in a buffer closes when it has reached its effective size. -/
theorem closeIfFull_placed (l : Ltx) (i : Fin 2) (b : Block) :
    ({ l with buffers := l.buffers.set i.val (.filling b) } : Ltx).closeIfFull i =
      if b.effectiveSize ≤ b.rows.length then
        { l with buffers := l.buffers.set i.val (.pending b), closedOrder := l.closedOrder ++ [i] }
      else { l with buffers := l.buffers.set i.val (.filling b) } := by
  have hself : (l.buffers.set i.val (.filling b))[i] = .filling b := by rw [getElem_set_fin, if_pos rfl]
  unfold Ltx.closeIfFull
  rw [hself]
  dsimp only
  split
  · unfold Ltx.closeBuffer
    rw [hself]
    dsimp only
    rw [Vector.set_set]
  · rfl

/-- R193: a block placed in a buffer that was EMPTY or OPEN, no other being OPEN. -/
theorem placed_lawful {l m : Ltx} (h : l.BuffersLawful) {i : Fin 2} {b : Block} (hb : b.Lawful)
    (hfree : ∀ c, l.buffers[i] ≠ .pending c ∧ l.buffers[i] ≠ .sending c)
    (hother : ∀ j : Fin 2, j ≠ i → ∀ c, l.buffers[j] ≠ .filling c) (hbuf : m.buffers = l.buffers)
    (horder : m.closedOrder = l.closedOrder) (hlane : m.lane = l.lane) :
    (({ m with buffers := m.buffers.set i.val (.filling b) } : Ltx).closeIfFull i).BuffersLawful := by
  have hnot : i ∉ l.closedOrder := fun hmem => by
    obtain ⟨c, hpending⟩ := (h.orderExactly i).mp hmem
    exact (hfree c).1 hpending
  have hnoRows : l.lane ≠ .own (.rows i) := fun hrows => by
    obtain ⟨c, hsending⟩ := (h.sending i).mpr hrows
    exact (hfree c).2 hsending
  rw [closeIfFull_placed]
  split
  · exact h.moved
      { buffers := by rw [← hbuf]
        filling := fun _ hf => by cases hf
        pending := fun c hc => Buffer.pending.inj hc ▸ hb
        sending := iff_of_false (by simp) (hlane ▸ hnoRows)
        laneOther := fun _ _ => by rw [← hlane]
        order := iff_of_true (by simp) ⟨b, rfl⟩
        orderOther := fun j hj => by simp [hj, horder]
        distinct := nodup_append_singleton (horder ▸ h.orderDistinct) (horder ▸ hnot) }
  · next hsize =>
    exact h.moved
      { buffers := by rw [← hbuf]
        filling := fun c hc => Buffer.filling.inj hc ▸ ⟨⟨hb, not_le.mp hsize⟩, hother⟩
        pending := fun _ hf => by cases hf
        sending := iff_of_false (by simp) (hlane ▸ hnoRows)
        laneOther := fun _ _ => by rw [← hlane]
        order := iff_of_false (horder ▸ hnot) (by simp)
        orderOther := fun j _ => by rw [← horder]
        distinct := horder ▸ h.orderDistinct }

/-! ### A row at LTX (R193, R195) -/

/-- R193: as many rows as asked for, and as fit in one frame: at least one. -/
theorem effectiveSize_bounds (mask : Half) {size : Nat} (h : 1 ≤ size ∧ size ≤ 16) :
    1 ≤ effectiveSize mask size ∧ effectiveSize mask size ≤ 16 ∧
      6 + effectiveSize mask size * (14 + 4 * (maskMeasures mask).length) ≤ 1024 := by
  have hwidth : (maskMeasures mask).length ≤ 16 := by
    simpa [maskMeasures] using List.length_filter_le (fun m : Fin 16 => mask.getLsbD m.val) (List.finRange 16)
  have hfit : 1 ≤ 1018 / (14 + 4 * (maskMeasures mask).length) := by
    rw [Nat.one_le_div_iff (by omega)]
    omega
  have hmul : 1018 / (14 + 4 * (maskMeasures mask).length) * (14 + 4 * (maskMeasures mask).length) ≤ 1018 :=
    Nat.div_mul_le_self ..
  have hle : effectiveSize mask size * (14 + 4 * (maskMeasures mask).length) ≤ 1018 :=
    (Nat.mul_le_mul_right _ (Nat.min_le_right ..)).trans hmul
  unfold effectiveSize at *
  omega

theorem openBuffer_eq_some {l : Ltx} {i : Fin 2} {b : Block} (h : l.openBuffer = some (i, b)) : l.buffers[i] = .filling b := by
  unfold Ltx.openBuffer at h
  split at h
  · next hb => cases h; exact hb
  · next hb _ => cases h; exact hb
  · cases h

theorem openBuffer_eq_none {l : Ltx} (h : l.openBuffer = none) (i : Fin 2) (b : Block) : l.buffers[i] ≠ .filling b := by
  intro hb
  unfold Ltx.openBuffer at h
  split at h
  · cases h
  · cases h
  · next h0 h1 =>
    match i with
    | 0 => exact h0 b hb
    | 1 => exact h1 b hb

theorem emptyBuffer_eq_some {l : Ltx} {i : Fin 2} (h : l.emptyBuffer = some i) : l.buffers[i] = .empty := by
  unfold Ltx.emptyBuffer at h
  split at h
  · next h0 =>
    obtain rfl := Option.some.inj h
    exact h0
  · obtain ⟨h1, rfl⟩ := Option.ite_none_right_eq_some.mp h |>.imp id (Option.some.inj ·)
    exact h1

theorem takeRow_buffersLawful {l : Ltx} (h : l.BuffersLawful) (mask : Half) {size : Nat} (hsize : 1 ≤ size ∧ size ≤ 16)
    (r : Row) : (l.takeRow mask size r).BuffersLawful := by
  unfold Ltx.takeRow
  split
  · next i b hopen =>
    have hb := openBuffer_eq_some hopen
    obtain ⟨⟨_, _, hmax, hfit⟩, hroom⟩ := h.filling i b hb
    refine placed_lawful h ⟨?_, ?_, hmax, hfit⟩ (by simp [hb]) (fun j hj c => h.not_both_filling hj.symm b c hb) rfl rfl rfl
    · simp
    · simpa using hroom
  · next i hnone hempty =>
    have hb := emptyBuffer_eq_some hempty
    obtain ⟨hone, hmax, hfit⟩ := effectiveSize_bounds mask hsize
    exact placed_lawful h (m := { l with skippedRows := 0, gapMark := false }) ⟨le_rfl, hone, hmax, hfit⟩ (by simp [hb])
      (fun j _ c => openBuffer_eq_none hnone j c) rfl rfl rfl
  · exact h.of_lane rfl rfl fun _ => .rfl

/-! ### LTX across every command -/

/-- R184, R186, R193: the row-block buffers lawful. -/
def State.BlocksLawful (s : State) : Prop := s.ltx.BuffersLawful

theorem readsOnly_blocksLawful : ReadsOnly [.lane, .buffers, .closedOrder] State.BlocksLawful := fun s t h hs =>
  hs.of_lane (h .buffers (by simp)) (h .closedOrder (by simp)) fun i => by
    rw [show t.ltx.lane = s.ltx.lane from h .lane (by simp)]

theorem emptyBuffers_lawful (indication : FlowIndication) : (Ltx.afterReset indication).BuffersLawful where
  filling i b h := by rw [Ltx.afterReset, getElem_replicate_fin] at h; cases h
  pending i b h := by rw [Ltx.afterReset, getElem_replicate_fin] at h; cases h
  sending i := by
    rw [Ltx.afterReset, getElem_replicate_fin]
    exact iff_of_false (by simp) nofun
  oneOpen b c h := by cases h.1
  orderDistinct := .nil
  orderExactly i := by
    rw [Ltx.afterReset, getElem_replicate_fin]
    exact iff_of_false List.not_mem_nil (by simp)

theorem dropOpen_ne_filling (x : Buffer) (b : Block) : x.dropOpen ≠ .filling b := by
  cases x <;> nofun

theorem dropOpen_eq_pending (x : Buffer) (b : Block) : x.dropOpen = .pending b ↔ x = .pending b := by
  cases x <;> simp [Buffer.dropOpen]

theorem dropOpen_eq_sending (x : Buffer) (b : Block) : x.dropOpen = .sending b ↔ x = .sending b := by
  cases x <;> simp [Buffer.dropOpen]

/-- R194: the start notice empties the OPEN buffer and nothing else. -/
theorem startNotice_lawful {l : Ltx} (h : l.BuffersLawful) : l.startNotice.BuffersLawful := by
  have hbuf : ∀ i : Fin 2, l.startNotice.buffers[i] = (l.buffers[i]).dropOpen := fun i => getElem_ofFn_fin _ i
  refine ⟨fun i b hb => ?_, fun i b hb => ?_, fun i => ?_, fun b c hbc => ?_, h.orderDistinct, fun i => ?_⟩
  · rw [hbuf] at hb
    exact absurd hb (dropOpen_ne_filling _ b)
  · rw [hbuf, dropOpen_eq_pending] at hb
    exact h.pending i b hb
  · rw [hbuf]
    simp only [dropOpen_eq_sending]
    exact h.sending i
  · rw [hbuf] at hbc
    exact dropOpen_ne_filling _ b hbc.1
  · rw [hbuf]
    simp only [dropOpen_eq_pending]
    exact h.orderExactly i

theorem arrival_blocksLawful {c : Instr} {s t : State} (h : exec c s = .next t) (hc : isArrival c = true)
    (hs : s.BlocksLawful) : t.BlocksLawful := by
  have hsame : ∀ p ∈ [Part.buffers, .closedOrder], writes c p = false := by
    intro p hp
    cases c with
    | dataOctet | idle | start | endFrame | abort | lossOfLock => fin_cases hp <;> rfl
    | _ => cases hc
  exact hs.of_lane (exec_untouched (p := .buffers) h (hsame _ (by simp)))
    (exec_untouched (p := .closedOrder) h (hsame _ (by simp))) fun i => arrival_sameOwn h hc _

theorem startCommand_blocksLawful (e : CommandEntry) (s : State) (h : s.BlocksLawful) :
    (startCommand e s).1.BlocksLawful := by
  obtain ⟨_, _, _, _, hs⟩ := startCommand_frame e s
  rw [hs]
  exact (startNotice_lawful h).of_lane rfl rfl fun _ => .rfl

theorem stop_blocksLawful (e : CommandEntry) (s : State) (h : s.BlocksLawful) : (stop e s).1.BlocksLawful := by
  unfold stop
  split
  · exact h
  · refine closeBlock_lawful ?_
    obtain ⟨_, _, _, hseg⟩ := stopSegment_frame (s.withCmu (s.cmu.setRunState .stopped)).endExceedances
    rw [hseg]
    exact h.of_lane rfl rfl fun _ => .rfl

theorem suspendRun_blocksLawful {s : State} (h : s.BlocksLawful) (cause : SuspendCause) :
    (s.suspendRun cause).BlocksLawful :=
  closeBlock_lawful (l := s.ltx) h

theorem suspend_blocksLawful (e : CommandEntry) (s : State) (h : s.BlocksLawful) : (suspend e s).1.BlocksLawful :=
  suspendRun_blocksLawful h .command

theorem setStream_blocksLawful (e : CommandEntry) (s : State) (h : s.BlocksLawful) : (setStream e s).1.BlocksLawful := by
  unfold setStream
  dsimp only
  split
  · split
    · exact h
    · exact closeBlock_lawful (l := s.ltx) h
  · exact h

theorem takeReverseRequest_blocksLawful {s : State} (h : s.BlocksLawful) : s.takeReverseRequest.BlocksLawful := by
  unfold State.takeReverseRequest
  split
  · exact h
  · dsimp only
    have hlinks : (s.withLinks { s.links with reverseRequest := none }).BlocksLawful := h
    split
    · obtain ⟨_, _, hemit⟩ := emitLocation_frame
        ((s.withLinks { s.links with reverseRequest := none }).suspendRun .reverse) .reverseSuspend
        ((s.withLinks { s.links with reverseRequest := none }).suspendRun .reverse).odo.measured
      rw [State.reverseSuspendRecord, hemit]
      exact readsOnly_blocksLawful _ _ (fun p hp => by fin_cases hp <;> rfl) (suspendRun_blocksLawful hlinks .reverse)
    · exact hlinks

theorem ltxRow_blocksLawful {s : State} (hset : s.SettingsLawful) (h : s.BlocksLawful) : s.ltxRow.BlocksLawful := by
  unfold State.ltxRow
  split
  · dsimp only
    split
    · exact takeRow_buffersLawful h _ hset.blockSize _
    · exact h
  · exact h

theorem ltxGap_blocksLawful {s : State} (h : s.BlocksLawful) : s.ltxGap.BlocksLawful := by
  unfold State.ltxGap
  split
  · dsimp only
    split
    · exact (closeBlock_lawful h).of_lane rfl rfl fun _ => .rfl
    · exact h
  · exact h

/-- R187: a PENDING block at the head of the closing order goes out. -/
theorem sending_lawful {l m : Ltx} (h : l.BuffersLawful) {i : Fin 2} {rest : List (Fin 2)} {b : Block}
    (hidle : l.lane = .idle) (ho : l.closedOrder = i :: rest)
    (hbuf : m.buffers = l.buffers.set i.val (.sending b)) (horder : m.closedOrder = rest) (hlane : m.lane = .own (.rows i)) :
    m.BuffersLawful := by
  have hdistinct := h.orderDistinct
  rw [ho, List.nodup_cons] at hdistinct
  exact h.moved
    { buffers := hbuf
      filling := nofun
      pending := nofun
      sending := iff_of_true ⟨b, rfl⟩ hlane
      laneOther := fun j hj => by
        rw [hlane, hidle]
        exact iff_of_false (by simpa using Ne.symm hj) nofun
      order := iff_of_false (horder ▸ hdistinct.1) (by simp)
      orderOther := fun j hj => by simp [horder, ho, hj]
      distinct := horder ▸ hdistinct.2 }

theorem arbiterChoice_blocksLawful {s : State} (hs : s.BlocksLawful) : s.arbiterChoice.BlocksLawful := by
  have hnone : ∀ {m : Ltx}, s.ltx.lane = .idle → (∀ i, m.lane ≠ .own (.rows i)) → m.buffers = s.ltx.buffers →
      m.closedOrder = s.ltx.closedOrder → m.BuffersLawful := fun hidle hne hb ho =>
    Ltx.BuffersLawful.of_lane hs hb ho fun i => iff_of_false (hne i) (by simp [hidle])
  rcases arbiterChoice_cases s with h | ⟨hidle, ⟨_, _, _, h⟩ | ⟨_, h⟩ | ⟨_, _, _, h⟩ | ⟨_, _, _, h⟩ | ⟨_, _, h⟩ | ⟨_, _, _, h⟩ |
    ⟨i, rest, b, ho, _, h⟩⟩
  · rw [h]
    exact hs
  · rw [h]
    exact hnone hidle nofun rfl rfl
  · rw [h]
    exact hnone hidle nofun rfl rfl
  · rw [h]
    exact hnone hidle nofun rfl rfl
  · rw [h]
    exact hnone hidle nofun rfl rfl
  · rw [h]
    exact hnone hidle nofun rfl rfl
  · rw [h]
    exact hnone hidle nofun rfl rfl
  · rw [h]
    exact sending_lawful hs hidle ho rfl rfl rfl

/-- R187: a SENDING buffer is free again once its frame is out. -/
theorem emptied_lawful {l m : Ltx} (h : l.BuffersLawful) {i : Fin 2} (hl : l.lane = .own (.rows i))
    (hbuf : m.buffers = l.buffers.set i.val .empty) (horder : m.closedOrder = l.closedOrder) (hlane : m.lane = .idle) :
    m.BuffersLawful := by
  obtain ⟨c, hsending⟩ := (h.sending i).mpr hl
  have hnot : i ∉ l.closedOrder := fun hmem => by
    obtain ⟨d, hpending⟩ := (h.orderExactly i).mp hmem
    rw [hsending] at hpending
    cases hpending
  exact h.moved
    { buffers := hbuf
      filling := nofun
      pending := nofun
      sending := iff_of_false (by simp) (by simp [hlane])
      laneOther := fun j hj => by
        rw [hlane, hl]
        exact iff_of_false nofun (by simpa using Ne.symm hj)
      order := iff_of_false (horder ▸ hnot) (by simp)
      orderOther := fun _ _ => by rw [horder]
      distinct := horder ▸ h.orderDistinct }

theorem transmissionEnd_blocksLawful {s : State} (hs : s.BlocksLawful) : s.transmissionEnd.BlocksLawful := by
  have hidle : ∀ {m : Ltx}, (∀ i, s.ltx.lane ≠ .own (.rows i)) → m.lane = .idle → m.buffers = s.ltx.buffers →
      m.closedOrder = s.ltx.closedOrder → m.BuffersLawful := fun hne hl hb ho =>
    Ltx.BuffersLawful.of_lane hs hb ho fun i => iff_of_false (by simp [hl]) (hne i)
  unfold State.transmissionEnd
  split
  · exact hs
  · exact hs
  · next hl => exact hidle (by simp [hl]) rfl rfl rfl
  · next f hl =>
    unfold State.completeOwn
    split
    · exact hidle (by simp [hl]) rfl rfl rfl
    · exact hidle (by simp [hl]) rfl rfl rfl
    · exact hidle (by simp [hl]) rfl rfl rfl
    · split
      · exact hidle (by simp [hl]) rfl rfl rfl
      · exact emptyBuffers_lawful _
    · exact hidle (by simp [hl]) rfl rfl rfl
    · exact emptied_lawful hs hl rfl rfl rfl

theorem exec_blocksLawful {c : Instr} {s t : State} (hset : s.SettingsLawful) (hs : s.BlocksLawful)
    (h : exec c s = .next t) : t.BlocksLawful := by
  cases c with
  | dataOctet | idle | start | endFrame | abort | lossOfLock => exact arrival_blocksLawful h rfl hs
  | powerOnReset straps =>
    obtain rfl := Host.Outcome.next.inj h
    exact emptyBuffers_lawful _
  | startCommand =>
    obtain rfl := Host.Outcome.next.inj h
    have hrun := readsOnly_blocksLawful.runCommand rfl startCommand_blocksLawful hs (row := .startCommand)
      (allowed := onlyStopped)
    exact readsOnly_blocksLawful _ _ (fun p hp => placeAborted_same (by rintro rfl; simp at hp) (by rintro rfl; simp at hp) _ s)
      hrun
  | stop =>
    obtain rfl := Host.Outcome.next.inj h
    exact readsOnly_blocksLawful.runCommand rfl stop_blocksLawful hs
  | suspend =>
    obtain rfl := Host.Outcome.next.inj h
    exact readsOnly_blocksLawful.runCommand rfl suspend_blocksLawful hs
  | setStream =>
    obtain rfl := Host.Outcome.next.inj h
    exact readsOnly_blocksLawful.runCommand rfl setStream_blocksLawful hs
  | reverseLimitRequest =>
    obtain rfl := Host.Outcome.next.inj h
    exact takeReverseRequest_blocksLawful hs
  | ltxRow =>
    obtain rfl := Host.Outcome.next.inj h
    exact ltxRow_blocksLawful hset hs
  | ltxGapNotice =>
    obtain rfl := Host.Outcome.next.inj h
    exact ltxGap_blocksLawful hs
  | arbiterChoice =>
    obtain rfl := Host.Outcome.next.inj h
    exact arbiterChoice_blocksLawful hs
  | transmissionEnd =>
    obtain rfl := Host.Outcome.next.inj h
    exact transmissionEnd_blocksLawful hs
  | _ => exact readsOnly_blocksLawful.exec_untouched h rfl hs

end Sys2Proof.Machine

/-! The statement of the row-block buffers settled. -/

namespace Sys2Proof.Proofs

open Sys2Proof Sys2Proof.Machine

/-- Settles O59: a buffer moves with the closing order and the lane, each move by the law of the buffer it moves. -/
theorem rowBlockBuffersStayLawful : Obligations.RowBlockBuffersStayLawful := by
  unfold Obligations.RowBlockBuffersStayLawful
  intro s t hset hs h
  rcases step_cases h with ⟨_, rfl⟩ | ⟨c, rest, _, hc⟩
  · exact hs
  · exact exec_blocksLawful (s := { s with pending := rest }) { hset with } hs hc

end Sys2Proof.Proofs


/-! SUPPORT. How any command of section 2.4 but ZERO answers when it is addressed to the part or broadcast, and what a commanded
reset leaves of every block (R25 to R27, R36). -/

namespace Sys2Proof.Machine

/-! ### A command carried out at the level of the machine (R25 to R27) -/

section

variable {s t : State} {source code : Octet} {tag : Half} {xs : List Octet} {rest : List CommandEntry} {row : Instr} {n : Nat}
  {r : Reply}

/-- R25 to R27: a command addressed to the part, with its length and the run state right. -/
theorem State.CanTake.exec_addressed (h : s.CanTake (commandEntry source false code tag xs) rest)
    (hp : isPlainCommand row = true) (hstart : row ≠ .startCommand) (hn : commandCode? code = some (row, n))
    (hl : xs.length = n) (ha : acceptedIn row s.cmu.runState)
    (hact : actOf row (commandEntry source false code tag xs) (s.taken rest) = (t, r)) :
    exec row s = .next (t.responded source code tag r.status r.results) := by
  rw [exec_plain hp, if_neg hstart]
  exact congrArg Host.Outcome.next (h.run_addressed hn hl ((acceptedBy_iff hp _).mpr ha) hact)

/-- R26, case 2, R27: a broadcast command that is executed leaves nothing, and one that is refused is counted. -/
theorem State.CanTake.exec_broadcast (h : s.CanTake (commandEntry source true code tag xs) rest)
    (hp : isPlainCommand row = true) (hstart : row ≠ .startCommand) (hn : commandCode? code = some (row, n))
    (hb : broadcastExecuted row = true) (hl : xs.length = n) (ha : acceptedIn row s.cmu.runState)
    (hact : actOf row (commandEntry source true code tag xs) (s.taken rest) = (t, r)) :
    exec row s = .next (if r.status = .ok then t else t.discarded) := by
  rw [exec_plain hp, if_neg hstart, h.run (commandEntry_row hn fun _ => hb) hn hl ((acceptedBy_iff hp _).mpr ha), hact,
    answer_broadcast]

end

/-! ### What a commanded reset leaves (R36) -/

theorem resets_of_warm {r : Response} (hs : r.status = .ok) (hc : r.code = 0x03) : r.resets = some .warm :=
  if_pos ⟨hs, hc⟩

theorem resets_of_cold {r : Response} (hs : r.status = .ok) (hc : r.code = 0x04) : r.resets = some .cold := by
  rw [Response.resets, if_neg (by simp [hc]), if_pos ⟨hs, hc⟩]

/-- R36: the end of the response to a RESET brings the reset into effect. -/
theorem exec_transmissionEnd_of_reset {s : State} {r : Response} {k : ResetKind} (hl : s.ltx.lane = .own (.response r))
    (hr : r.resets = some k) : exec .transmissionEnd s = .next (s.endFrameOnLane.commandedReset k) := by
  refine congrArg Host.Outcome.next ?_
  unfold State.transmissionEnd
  rw [hl]
  simp only [State.completeOwn, hr]

theorem voidCopy_receiving (r : Receiver) : (r = .hunt → r.voidCopy = .hunt) ∧ (r = .ready → r.voidCopy = .ready) ∧
    ∀ f, r = .receiving f → r.voidCopy = .receiving { f with copyVoid := true } :=
  ⟨by rintro rfl; rfl, by rintro rfl; rfl, by rintro f rfl; rfl⟩

/-- R128, R149: after either reset every detector is clear, QUIET exactly where its measure is enabled. -/
theorem detectors_commandedReset (s : State) (k : ResetKind) (m : Fin 16) :
    (s.commandedReset k).exd.detectors[m] =
      { (State.reset.exd.detectors[m]) with
        mode := if (s.commandedReset k).mse.measures[m] = .disabled then .disabled else .quiet } := by
  have hreset : State.reset.exd.detectors[m] = .cleared .disabled := getElem_replicate_fin _ m
  rw [hreset]
  cases k with
  | cold =>
    have hd : (s.commandedReset .cold).exd.detectors[m] = .cleared .disabled := getElem_replicate_fin _ m
    have hm : (s.commandedReset .cold).mse.measures[m] = .disabled := getElem_replicate_fin _ m
    rw [hd, hm]
    rfl
  | warm =>
    have hd : (s.commandedReset .warm).exd.detectors[m] =
        .cleared (if s.mse.measures[m] = .disabled then .disabled else .quiet) := getElem_ofFn_fin _ m
    rw [hd]
    rfl

end Sys2Proof.Machine

/-! The statements about the resets settled. -/

namespace Sys2Proof.Proofs

open Sys2Proof Sys2Proof.Machine

/-- Settles O60, invariant by invariant, by what each keeps of a state after power-on reset. -/
theorem resetMeetsEveryInvariant : Obligations.ResetMeetsEveryInvariant := by
  unfold Obligations.ResetMeetsEveryInvariant
  have hqueues : State.reset.QueuesBounded := by constructor <;> exact Nat.zero_le _
  have hcounts : State.reset.CountsBounded :=
    ⟨zero_bounded, Nat.zero_le _, Nat.zero_le _, Nat.zero_le _, Nat.zero_le _, Nat.zero_le _, Nat.zero_le _⟩
  have hlink : State.reset.LinkCoherent := linkCoherent_of_copyFree ⟨nofun, rfl⟩ rfl nofun
  exact ⟨hqueues, hcounts, rfl, rfl, rfl, hlink, reset_settingsLawful, reset_limitsLawful, afterReset_inRange (by decide),
    cold_lawful, tracking_of_reset rfl rfl fun m => .inl (reset_detectors m), cold_mse_lawful, cold_stu_inRange,
    emptyBuffers_lawful _, rfl⟩

/-- Settles O3: the tables hold their default at every place, the rest is written out in the reset state. -/
theorem resetHoldsThePowerOnValues : Obligations.ResetHoldsThePowerOnValues := by
  unfold Obligations.ResetHoldsThePowerOnValues
  have hlimit : ∀ (b : Fin 5) (m : Fin 16), State.reset.exd.limitSet b m = .default := fun b m => by
    show ((Vector.replicate 5 (Vector.replicate 16 LimitSet.default))[b])[m] = _
    rw [getElem_replicate_fin, getElem_replicate_fin]
  have hparameter : ∀ p : Fin 10, State.reset.mse.parameters[p] = .default := fun p => getElem_replicate_fin _ p
  have hcontext : ∀ c : Fin 32, (State.reset.ext.contexts[c]).state = .free := fun c =>
    congrArg Context.state (getElem_replicate_fin _ c)
  exact ⟨⟨rfl, rfl, rfl, rfl, rfl⟩, rfl,
    ⟨fun i => ⟨getElem_replicate_fin _ i, getElem_replicate_fin _ i⟩, rfl, rfl⟩, rfl, rfl,
    ⟨fun p => by rw [hparameter]; exact ⟨rfl, rfl⟩, fun m => getElem_replicate_fin _ m, fun i => getElem_replicate_fin _ i, rfl,
      fun m => getElem_replicate_fin _ m⟩,
    ⟨hlimit, reset_detectors⟩,
    ⟨hcontext, rfl, fun m => getElem_replicate_fin _ m, rfl, rfl, fun m => getElem_replicate_fin _ m, rfl, rfl⟩,
    ⟨fun i => ⟨getElem_replicate_fin _ i, getElem_replicate_fin _ i, getElem_replicate_fin _ i⟩, rfl, rfl, rfl⟩,
    ⟨rfl, rfl, rfl, rfl, rfl, rfl, rfl, rfl, fun i => getElem_replicate_fin _ i, rfl, rfl, rfl, rfl, rfl⟩⟩

/-- Settles O4: the state after power-on reset is the reset state under the straps, with the line, the lane and the queue as
they are. -/
theorem powerOnResetSamplesTheStraps : Obligations.PowerOnResetSamplesTheStraps := by
  unfold Obligations.PowerOnResetSamplesTheStraps
  exact fun straps s =>
    ⟨s.powerOnReset straps, rfl, rfl, rfl, rfl, rfl, rfl, rfl, rfl, rfl, rfl, rfl, rfl, rfl, rfl, rfl, rfl, rfl⟩

/-- Settles O5: the request by the rule of an answered command, the effect by what the reset leaves of each block. -/
theorem resetCommandsTakeEffectAtTheEndOfTheirResponse : Obligations.ResetCommandsTakeEffectAtTheEndOfTheirResponse := by
  unfold Obligations.ResetCommandsTakeEffectAtTheEndOfTheirResponse
  refine ⟨fun s source tag rest => ⟨fun h => ?_, fun h => ?_⟩, fun s r hl hs hcode => ?_⟩
  · exact h.exec_addressed (row := .resetWarm) rfl nofun rfl rfl trivial rfl
  · exact h.exec_addressed (row := .resetCold) rfl nofun rfl rfl trivial rfl
  · obtain ⟨hhunt, hready, hreceiving⟩ := voidCopy_receiving s.lrx.receiver
    rcases hcode with hc | hc
    · have hne : r.code ≠ 0x04 := by simp [hc]
      exact ⟨_, exec_transmissionEnd_of_reset hl (resets_of_warm hs hc), ⟨rfl, rfl, rfl, rfl⟩,
        ⟨rfl, rfl, rfl, rfl, hhunt, hready, hreceiving⟩, ⟨rfl, rfl, rfl, rfl⟩,
        ⟨fun i => getElem_replicate_fin _ i, rfl, rfl⟩, rfl, ⟨rfl, rfl, rfl, rfl, rfl⟩,
        ⟨fun i => getElem_replicate_fin _ i, rfl, fun m => getElem_replicate_fin _ m⟩, detectors_commandedReset _ _, rfl, rfl,
        rfl, rfl, fun _ => ⟨rfl, rfl, rfl, rfl, rfl, rfl, rfl, rfl, rfl, rfl⟩, fun h => absurd h hne⟩
    · have hne : r.code ≠ 0x03 := by simp [hc]
      exact ⟨_, exec_transmissionEnd_of_reset hl (resets_of_cold hs hc), ⟨rfl, rfl, rfl, rfl⟩,
        ⟨rfl, rfl, rfl, rfl, hhunt, hready, hreceiving⟩, ⟨rfl, rfl, rfl, rfl⟩,
        ⟨fun i => getElem_replicate_fin _ i, rfl, rfl⟩, rfl, ⟨rfl, rfl, rfl, rfl, rfl⟩,
        ⟨fun i => getElem_replicate_fin _ i, rfl, fun m => getElem_replicate_fin _ m⟩, detectors_commandedReset _ _, rfl, rfl,
        rfl, rfl, fun h => absurd h hne, fun _ => ⟨rfl, rfl, rfl, rfl, rfl, rfl⟩⟩

end Sys2Proof.Proofs


/-! SUPPORT. When the head entry of the command queue waits, which entries name no command, and how a command is refused for its
length or for the run state (R25 to R27). -/

namespace Sys2Proof.Machine

/-! ### The codes (R26, R196) -/

theorem mem_commandCodes {code : Octet} {i : Instr} {n : Nat} (h : commandCode? code = some (i, n)) :
    code ∈ commandCodes := by
  unfold commandCode? at h
  split at h
  case h_35 => cases h
  all_goals simp [commandCodes, ← BitVec.toNat_inj, *]

theorem commandCode?_of_not_mem {code : Octet} (h : code ∉ commandCodes) : commandCode? code = none :=
  Option.eq_none_iff_forall_not_mem.mpr fun ⟨_, _⟩ hsome => h (mem_commandCodes hsome)

theorem mem_broadcastCodes_iff {code : Octet} {i : Instr} {n : Nat} (h : commandCode? code = some (i, n)) :
    code ∈ broadcastCodes ↔ broadcastExecuted i = true := by
  unfold commandCode? at h
  split at h
  case h_35 => cases h
  all_goals
    obtain ⟨rfl, rfl⟩ := Prod.mk.inj (Option.some.inj h)
    simp [broadcastCodes, broadcastExecuted, ← BitVec.toNat_inj, *]

/-! ### The row of an entry (R26, cases 1 to 3) -/

theorem row_of_short {e : CommandEntry} (h : e.payload.length < 3) : e.row = .commandDiscarded := by
  simp [CommandEntry.row, CommandEntry.whole, h]

theorem row_of_not_broadcast {source code : Octet} {tag : Half} {args : List Octet} (h : code ∉ broadcastCodes) :
    (commandEntry source true code tag args).row = .commandDiscarded := by
  unfold CommandEntry.row
  cases hc : commandCode? code with
  | none => simp [hc]
  | some p =>
    have hb : broadcastExecuted p.1 = false := by
      simpa [h] using (mem_broadcastCodes_iff (i := p.1) (n := p.2) hc).symm
    simp [hc, hb]

theorem row_of_unknown {source code : Octet} {tag : Half} {args : List Octet} (h : code ∉ commandCodes) :
    (commandEntry source false code tag args).row = .unknownCommand := by
  simp [CommandEntry.row, commandCode?_of_not_mem h]

/-! ### A head entry that waits (R25) -/

theorem headCommand_eq_none {s : State} {i : Instr} (h : s.cmu.resetPending ≠ none ∨ s.lrx.commands = [] ∨
    ∃ e rest, s.lrx.commands = e :: rest ∧ ((e.broadcast = false ∧ 4 ≤ s.ltx.responses.length) ∨ e.row ≠ i)) :
    s.headCommand i = none := by
  unfold State.headCommand
  split
  · rfl
  · next e rest hq =>
    refine if_neg ?_
    rintro ⟨hreset, hroom, hrow⟩
    rcases h with hpending | hempty | ⟨e', rest', hq', hwait⟩
    · exact hpending hreset
    · rw [hq] at hempty
      cases hempty
    · obtain ⟨rfl, rfl⟩ := List.cons_eq_cons.mp (hq.symm.trans hq')
      rcases hwait with ⟨hb, hfull⟩ | hne
      · simp only [hb, Bool.false_eq_true, false_or, Ltx.responseRoom, Config.responseCapacity, decide_eq_true_eq] at hroom
        omega
      · exact hne hrow

/-- R53: nothing is placed for a ZERO that START did not abort. -/
theorem placeAborted_of_zero {s t : State} (h : t.cal.zero = s.cal.zero) : t.placeAborted s = t := by
  have hsame : t.collecting = s.collecting := by rw [State.collecting, State.collecting, h]
  simp [State.placeAborted, hsame]

/-- R25: a host command whose head entry cannot be taken, or is another row's, leaves the state. -/
theorem exec_of_no_head {s : State} {i : Instr}
    (hi : isPlainCommand i = true ∨ i = .zero ∨ i = .commandDiscarded ∨ i = .unknownCommand) (h : s.headCommand i = none) :
    exec i s = .next s := by
  rcases hi with hp | rfl | rfl | rfl
  · have hrun : s.runCommand i (acceptedBy i) (actOf i) = s := by simp only [State.runCommand, h]
    rw [exec_plain hp, hrun]
    split
    · rw [placeAborted_of_zero rfl]
    · rfl
  · show Host.Outcome.next _ = _
    rw [h]
  · show Host.Outcome.next _ = _
    rw [h]
  · show Host.Outcome.next _ = _
    rw [h]

/-! ### A refusal for the length or the run state (R26, cases 4 and 5) -/

section

variable {s : State} {source code : Octet} {broadcast : Bool} {tag : Half} {args : List Octet} {rest : List CommandEntry}
  {i : Instr} {octets : Nat}

/-- R26, cases 4 and 5: the status of a refusal before the owning block has its say. -/
inductive RefusedEarly (args : List Octet) (octets : Nat) (allowed : Bool) : Status → Prop where
  | length (h : args.length ≠ octets) : RefusedEarly args octets allowed .length
  | state (hl : args.length = octets) (ha : allowed = false) : RefusedEarly args octets allowed .state

theorem answer_refusal (t : State) (broadcast : Bool) {status : Status} (h : status ≠ .ok) :
    t.answer (commandEntry source broadcast code tag args) (.refuse status) =
      if broadcast then t.discarded else t.responded source code tag status [] := by
  cases broadcast with
  | false => exact answer_addressed _ _ _ _ _ _
  | true =>
    rw [answer_broadcast]
    exact if_neg h

theorem runCommand_of_refused (h : s.CanTake (commandEntry source broadcast code tag args) rest)
    (hn : commandCode? code = some (i, octets)) (hb : broadcast = true → broadcastExecuted i = true)
    {allowed : RunState → Bool} {status : Status} (hr : RefusedEarly args octets (allowed s.cmu.runState) status)
    (act : CommandEntry → State → State × Reply) :
    s.runCommand i allowed act =
      if broadcast then (s.taken rest).discarded else (s.taken rest).responded source code tag status [] := by
  have harg : argumentOctets (commandEntry source broadcast code tag args) = octets := by simp [argumentOctets, hn]
  have hne : status ≠ .ok := by cases hr <;> nofun
  have hjudge : (s.taken rest).judgeCommand (commandEntry source broadcast code tag args) allowed .refuse act =
      (s.taken rest, .refuse status) := by
    have hrun : (s.taken rest).cmu.runState = s.cmu.runState := rfl
    cases hr with
    | length hl => simp [State.judgeCommand, harg, hl]
    | state hl ha => simp [State.judgeCommand, harg, hl, hrun, ha]
  simp only [State.runCommand, h.headCommand (commandEntry_row hn hb), h.dropCommand, hjudge]
  exact answer_refusal _ broadcast hne

theorem exec_of_refused (hp : isPlainCommand i = true) (hn : commandCode? code = some (i, octets))
    (hb : broadcast = true → code ∈ broadcastCodes) (h : s.CanTake (commandEntry source broadcast code tag args) rest)
    {status : Status} (hr : RefusedEarly args octets (acceptedBy i s.cmu.runState) status) :
    exec i s = .next
      (if broadcast then (s.taken rest).discarded else (s.taken rest).responded source code tag status []) := by
  have hrun := runCommand_of_refused h hn (fun hbr => (mem_broadcastCodes_iff hn).mp (hb hbr)) hr (actOf i)
  rw [exec_plain hp, hrun]
  refine congrArg Host.Outcome.next (ite_eq_right_iff.mpr fun _ => placeAborted_of_zero ?_)
  cases broadcast <;> rfl

end

end Sys2Proof.Machine

/-! The statements about entries that wait, are discarded or are refused. -/

namespace Sys2Proof.Proofs

open Sys2Proof Sys2Proof.Machine

/-- Settles O14: the row of each entry by R26, and the state left alone where the head entry waits. -/
theorem entriesAreTakenDiscardedOrWait : Obligations.EntriesAreTakenDiscardedOrWait := by
  unfold Obligations.EntriesAreTakenDiscardedOrWait
  refine ⟨⟨fun s e rest h hcase => ?_, fun s source code tag args rest h hcode => ?_⟩, fun i s hi hwait => ?_⟩
  · have hrow : e.row = .commandDiscarded := by
      rcases hcase with hshort | ⟨hb, code, tag, args, hpayload, hcode⟩
      · exact row_of_short hshort
      · obtain ⟨source, _, _⟩ := e
        obtain rfl : _ = true := hb
        obtain rfl := hpayload
        exact row_of_not_broadcast hcode
    show Host.Outcome.next _ = _
    rw [h.headCommand hrow, h.dropCommand]
    rfl
  · show Host.Outcome.next _ = _
    rw [h.headCommand (row_of_unknown hcode), h.dropCommand]
    exact congrArg Host.Outcome.next (answer_addressed _ _ _ _ _ _)
  · exact exec_of_no_head hi (headCommand_eq_none hwait)

/-- Settles O15: either refusal comes before the owning block acts, and a refused START has no ZERO to answer for. -/
theorem wrongLengthOrRunStateIsRefused : Obligations.WrongLengthOrRunStateIsRefused := by
  unfold Obligations.WrongLengthOrRunStateIsRefused
  intro i octets s source code broadcast tag args rest hp hn hb h
  refine ⟨fun hl => exec_of_refused hp hn hb h (.length hl), fun hl ha => exec_of_refused hp hn hb h (.state hl ?_)⟩
  exact Bool.eq_false_iff.mpr fun hacc => ha ((acceptedBy_iff hp _).mp hacc)

end Sys2Proof.Proofs


/-! SUPPORT. Which buffer a row goes to, and what the row and the gap notice do at LTX (R193 to R195). -/

namespace Sys2Proof.Machine

/-! ### The buffer a row goes to -/

/-- R193: the OPEN buffer, no other being OPEN. -/
theorem openBuffer_of_filling {l : Ltx} {i : Fin 2} {b : Block} (hb : l.buffers[i] = .filling b)
    (hother : ∀ (j : Fin 2) (c : Block), j ≠ i → l.buffers[j] ≠ .filling c) : l.openBuffer = some (i, b) := by
  cases h : l.openBuffer with
  | none => exact absurd hb (openBuffer_eq_none h i b)
  | some p =>
    obtain ⟨j, c⟩ := p
    have hc := openBuffer_eq_some h
    have hji : j = i := by
      by_contra hne
      exact hother j c hne hc
    subst hji
    rw [hb] at hc
    rw [Buffer.filling.inj hc]

theorem openBuffer_of_none_filling {l : Ltx} (h : ∀ (i : Fin 2) (b : Block), l.buffers[i] ≠ .filling b) :
    l.openBuffer = none := by
  cases ho : l.openBuffer with
  | none => rfl
  | some p => exact absurd (openBuffer_eq_some (i := p.1) (b := p.2) ho) (h p.1 p.2)

theorem emptyBuffer_of_first {l : Ltx} (h : l.buffers[(0 : Fin 2)] = .empty) : l.emptyBuffer = some 0 := if_pos h

theorem emptyBuffer_of_second {l : Ltx} (h0 : l.buffers[(0 : Fin 2)] ≠ .empty) (h1 : l.buffers[(1 : Fin 2)] = .empty) :
    l.emptyBuffer = some 1 := (if_neg h0).trans (if_pos h1)

theorem emptyBuffer_of_none_empty {l : Ltx} (h : ∀ i : Fin 2, l.buffers[i] ≠ .empty) : l.emptyBuffer = none :=
  (if_neg (h 0)).trans (if_neg (h 1))

/-! ### A row at LTX (R193, R195) -/

/-- R193: a block placed in a buffer, PENDING once it has reached its effective size. -/
def Ltx.placed (l : Ltx) (i : Fin 2) (b : Block) : Ltx :=
  if b.effectiveSize ≤ b.rows.length then
    { l with buffers := l.buffers.set i.val (.pending b), closedOrder := l.closedOrder ++ [i] }
  else { l with buffers := l.buffers.set i.val (.filling b) }

/-- R193: the block a row opens. -/
def Ltx.firstBlock (l : Ltx) (mask : Half) (size : Nat) (r : Row) : Block :=
  { mask := mask, effectiveSize := effectiveSize mask size, skipped := l.skippedRows, gapBefore := l.gapMark, rows := [r] }

section

variable {l : Ltx} {mask : Half} {size : Nat} {r : Row}

theorem takeRow_of_open {i : Fin 2} {b : Block} (h : l.openBuffer = some (i, b)) :
    l.takeRow mask size r = l.placed i { b with rows := b.rows ++ [r] } := by
  unfold Ltx.takeRow
  rw [h]
  exact closeIfFull_placed l i { b with rows := b.rows ++ [r] }

theorem takeRow_of_empty {i : Fin 2} (h : l.openBuffer = none) (he : l.emptyBuffer = some i) :
    l.takeRow mask size r =
      ({ l with skippedRows := 0, gapMark := false } : Ltx).placed i (l.firstBlock mask size r) := by
  unfold Ltx.takeRow
  rw [h, he]
  exact closeIfFull_placed { l with skippedRows := 0, gapMark := false } i (l.firstBlock mask size r)

theorem takeRow_of_no_room (h : l.openBuffer = none) (he : l.emptyBuffer = none) :
    l.takeRow mask size r = { l with skippedRows := min (l.skippedRows + 1) 65535 } := by
  unfold Ltx.takeRow
  rw [h, he]
  rfl

end

theorem ltxRow_of_kept {s : State} {r : Row} {rest : List RowItem} (hl : s.links.mseToLtx = .row r :: rest)
    (hm : s.cmu.runState = .measuring) (hr : r.run = s.cmu.runNumber) :
    s.ltxRow = { s with
      ltx := s.ltx.takeRow s.cmu.streamMask s.cmu.blockSize r, links := { s.links with mseToLtx := rest } } := by
  have hkeeps := (keeps_iff s r.run).mpr ⟨hm, hr⟩
  simp only [State.ltxRow, hl, List.head?_cons, hkeeps, if_true, Links.takenByLtx, List.tail_cons]
  rfl

theorem ltxGap_of_kept {s : State} {rest : List RowItem} (hl : s.links.mseToLtx = .gap s.cmu.runNumber :: rest)
    (hm : s.cmu.runState = .measuring) :
    s.ltxGap = { s with
      ltx := { s.ltx.closeBlock with gapMark := true }, links := { s.links with mseToLtx := rest } } := by
  have hkeeps := (keeps_iff s s.cmu.runNumber).mpr ⟨hm, rfl⟩
  simp only [State.ltxGap, hl, List.head?_cons, hkeeps, if_true, Links.takenByLtx, List.tail_cons]
  rfl

theorem ltx_of_no_item {s : State} (h : s.links.mseToLtx = []) : s.ltxRow = s ∧ s.ltxGap = s := by
  simp [State.ltxRow, State.ltxGap, h]

end Sys2Proof.Machine

/-! The statement about the rows at LTX. -/

namespace Sys2Proof.Proofs

open Sys2Proof Sys2Proof.Machine

/-- Settles O51: the buffer is found by which one is OPEN and which are EMPTY, and the block placed in it. -/
theorem rowsFillTheOpenBlock : Obligations.RowsFillTheOpenBlock := by
  unfold Obligations.RowsFillTheOpenBlock
  refine ⟨fun s r rest hl hm hr => ?_, fun s rest hl hm => ?_, fun s h => ?_⟩
  · intro kept placed width first opened
    have hexec : exec .ltxRow s = .next (kept (s.ltx.takeRow s.cmu.streamMask s.cmu.blockSize r)) :=
      congrArg Host.Outcome.next (ltxRow_of_kept hl hm hr)
    refine ⟨fun i b hb hother => ?_, fun hnone => ⟨fun h0 => ?_, fun h0 h1 => ?_, fun hfull => ?_⟩⟩
    · rw [hexec, takeRow_of_open (openBuffer_of_filling hb hother)]
      rfl
    · rw [hexec, takeRow_of_empty (openBuffer_of_none_filling hnone) (emptyBuffer_of_first h0)]
      rfl
    · rw [hexec, takeRow_of_empty (openBuffer_of_none_filling hnone) (emptyBuffer_of_second h0 h1)]
      rfl
    · rw [hexec, takeRow_of_no_room (openBuffer_of_none_filling hnone) (emptyBuffer_of_none_empty hfull)]
  · exact congrArg Host.Outcome.next (ltxGap_of_kept hl hm)
  · obtain ⟨hrow, hgap⟩ := ltx_of_no_item h
    exact ⟨congrArg Host.Outcome.next hrow, congrArg Host.Outcome.next hgap⟩

end Sys2Proof.Proofs


/-! SUPPORT. The octets of a number, a flags octet and each payload, and which entry the arbiter takes (R185 to R188, R194,
R196). -/

namespace Sys2Proof.Machine

/-! ### Octets and flags (R196) -/

theorem getElem?_octetsOf (w : Nat) (x : Int) {i : Nat} (h : i < w) :
    (octetsOf w x)[i]? = some (BitVec.ofInt 8 (x / (256 ^ (w - 1 - i) : Nat))) := by
  induction w generalizing i with
  | zero => exact absurd h (Nat.not_lt_zero i)
  | succ w ih =>
    cases i with
    | zero => rfl
    | succ j =>
      have hexp : w + 1 - 1 - (j + 1) = w - 1 - j := by omega
      rw [hexp]
      exact ih (Nat.lt_of_succ_lt_succ h)

/-- A flag as a number, as R196 weighs it in a flags octet. -/
def flagBit (b : Bool) : Nat := if b then 1 else 0

theorem toNat_eq_flagBit (b : Bool) : b.toNat = flagBit b := by cases b <;> rfl

theorem length_flatMap_const {α β : Type} (l : List α) (f : α → List β) {n : Nat} (h : ∀ x, (f x).length = n) :
    (l.flatMap f).length = l.length * n := by
  simp [List.length_flatMap, h]

theorem Quantity.flagsOctet_eq (q : Quantity) :
    q.flagsOctet = BitVec.ofNat 8 (flagBit q.valid + 2 * flagBit q.saturated) := by
  refine congrArg (BitVec.ofNat 8) ?_
  simp only [List.foldr, toNat_eq_flagBit]
  omega

theorem Row.flagsOctet_eq (r : Row) : r.flagsOctet = BitVec.ofNat 8 (r.band.val + 8 * flagBit r.unlocated +
    16 * flagBit r.lowSpeed + 32 * flagBit r.seqGap + 64 * flagBit r.cantTable) := by
  refine congrArg (BitVec.ofNat 8) ?_
  simp only [toNat_eq_flagBit]
  omega

theorem ExceptionRecord.flagsOctet_eq (x : ExceptionRecord) : x.flagsOctet = BitVec.ofNat 8 (flagBit x.sat +
    2 * flagBit x.invalidSeen + 4 * flagBit x.lowSpeed + 8 * flagBit x.corrected + 16 * flagBit x.alerted +
    32 * flagBit x.alertLost + 64 * flagBit x.cyclic) := by
  refine congrArg (BitVec.ofNat 8) ?_
  simp only [List.foldr, toNat_eq_flagBit]
  omega

theorem Segment.flagsOctet_eq (g : Segment) : g.flagsOctet = BitVec.ofNat 8 (flagBit g.partSegment +
    2 * flagBit g.corrected + 4 * flagBit g.truncated + 8 * flagBit g.frozen + 16 * flagBit g.unlocated) := by
  refine congrArg (BitVec.ofNat 8) ?_
  simp only [List.foldr, toNat_eq_flagBit]
  omega

theorem flagsOctet_one (a : Bool) : flagsOctet [a] = BitVec.ofNat 8 (flagBit a) := by
  refine congrArg (BitVec.ofNat 8) ?_
  simp only [List.foldr, toNat_eq_flagBit]
  omega

theorem flagsOctet_two (a b : Bool) : flagsOctet [a, b] = BitVec.ofNat 8 (flagBit a + 2 * flagBit b) := by
  refine congrArg (BitVec.ofNat 8) ?_
  simp only [List.foldr, toNat_eq_flagBit]
  omega

theorem flagsOctet_three (a b c : Bool) :
    flagsOctet [a, b, c] = BitVec.ofNat 8 (flagBit a + (2 * flagBit b + 4 * flagBit c)) := by
  refine congrArg (BitVec.ofNat 8) ?_
  simp only [List.foldr, toNat_eq_flagBit]
  omega

/-! ### The payloads (R196) -/

theorem RowRef.octets_length (r : RowRef) : r.octets.length = 8 := by simp [RowRef.octets]

theorem Response.payload_length (r : Response) : r.payload.length = 4 + r.results.length := by
  simp [Response.payload]
  omega

theorem Row.octets_length (mask : Half) (r : Row) : (r.octets mask).length = 14 + 4 * (maskMeasures mask).length := by
  have hmeasures := length_flatMap_const (maskMeasures mask)
    (fun m => octetsOf 3 (r.measures[m]).value ++ [(r.measures[m]).flagsOctet]) (n := 4) fun m => by simp
  rw [Row.octets, List.length_append, hmeasures]
  simp
  omega

theorem Block.payload_length (b : Block) :
    b.payload.length = 6 + b.rows.length * (14 + 4 * (maskMeasures b.mask).length) := by
  rw [Block.payload, List.length_append, length_flatMap_const _ _ (Row.octets_length b.mask)]
  simp

theorem ExceptionRecord.payload_length (k : Fin 32) (x : ExceptionRecord) : (x.payload k).length = 52 := by
  simp [ExceptionRecord.payload, RowRef.octets_length]

theorem AlertRecord.payload_length (a : AlertRecord) : a.payload.length = 40 := by
  simp [AlertRecord.payload, RowRef.octets_length]

theorem LocationRecord.payload_length (r : LocationRecord) : r.payload.length = 24 := by simp [LocationRecord.payload]

theorem SlotResult.octets_length (x : SlotResult) : x.octets.length = 21 := by simp [SlotResult.octets]

theorem SegmentRecord.payload_length (r : SegmentRecord) : r.payload.length = 32 + 21 * r.entries.length := by
  rw [SegmentRecord.payload, List.length_append, length_flatMap_const _ _ SlotResult.octets_length]
  simp [RowRef.octets_length]
  omega

theorem Row.octets_eq (mask : Half) (r : Row) : r.octets mask =
    octetsOf 4 r.index.toNat ++ octetsOf 4 r.position ++ octetsOf 2 r.speed ++ octetsOf 1 r.epoch.toNat ++
      [BitVec.ofNat 8 (r.band.val + 8 * flagBit r.unlocated + 16 * flagBit r.lowSpeed + 32 * flagBit r.seqGap +
        64 * flagBit r.cantTable)] ++ octetsOf 2 r.suppress.toNat ++
      (maskMeasures mask).flatMap fun m => octetsOf 3 (r.measures[m]).value ++
        [BitVec.ofNat 8 (flagBit (r.measures[m]).valid + 2 * flagBit (r.measures[m]).saturated)] := by
  simp only [Row.octets, Row.flagsOctet_eq, Quantity.flagsOctet_eq]

theorem AlertRecord.flagsOctet_eq (a : AlertRecord) :
    a.flagsOctet = BitVec.ofNat 8 (flagBit (decide (a.context = none))) := by
  rw [AlertRecord.flagsOctet, flagsOctet_one]
  cases a.context <;> rfl

theorem AlertRecord.contextOctet_eq (a : AlertRecord) : (a.context.getD 0).val = (a.context.map Fin.val).getD 0 := by
  cases a.context <;> rfl

theorem SlotResult.octets_eq (x : SlotResult) : x.octets =
    octetsOf 1 x.slot.val ++ [x.function.octet, x.source.octet, x.status.octet,
      BitVec.ofNat 8 (flagBit x.result.isSome + 2 * flagBit x.aux.isSome)] ++
      octetsOf 4 x.n ++ octetsOf 8 (x.result.getD 0) ++ octetsOf 4 (x.aux.getD 0) := by
  rw [SlotResult.octets, flagsOctet_two]
  rfl

/-- R196: a LOCATION payload, field by field. -/
def LocationRecord.layout (r : LocationRecord) (code flags id : Nat) (position : Int) (window : Nat) (δ : Int) : List Octet :=
  octetsOf 1 code ++ [BitVec.ofNat 8 (flagBit r.located + flags)] ++ octetsOf 1 r.lost ++ octetsOf 1 r.epoch.toNat ++
    octetsOf 4 r.measured ++ octetsOf 4 r.offset ++ octetsOf 2 id ++ octetsOf 4 position ++ octetsOf 2 window ++ octetsOf 4 δ

theorem LocationRecord.payload_eq_layout {r : LocationRecord} {code flags : Nat} (hcode : [r.kind.octet] = octetsOf 1 code)
    (hflags : r.flagsOctet = BitVec.ofNat 8 (flagBit r.located + flags)) :
    r.payload = r.layout code flags r.kind.fields.1 r.kind.fields.2.1.position r.kind.fields.2.1.window r.kind.fields.2.2 := by
  unfold LocationRecord.payload LocationRecord.layout
  rw [← hcode, ← hflags]
  rfl

/-- R97, R196: the payload of each kind of location record. -/
theorem LocationRecord.payload_eq (r : LocationRecord) : r.payload = match r.kind with
    | .markApplied q e δ => r.layout 1 0 q e.position e.window δ
    | .markRejected q e δ .window => r.layout 2 0 q e.position e.window δ
    | .markRejected q e δ .range => r.layout 2 4 q e.position e.window δ
    | .markUnknown q => r.layout 3 0 q 0 0 0
    | .positionSet δ => r.layout 4 0 0 0 0 δ
    | .reverseSuspend => r.layout 5 0 0 0 0 0
    | .locationLost was => r.layout 6 (2 * flagBit was) 0 0 0 0 := by
  obtain ⟨kind, measured, offset, epoch, located, lost⟩ := r
  cases kind with
  | markApplied q e δ => exact payload_eq_layout rfl (flagsOctet_three located false false)
  | markRejected q e δ reason =>
    cases reason with
    | window => exact payload_eq_layout rfl (flagsOctet_three located false false)
    | range => exact payload_eq_layout rfl (flagsOctet_three located false true)
  | markUnknown q => exact payload_eq_layout rfl (flagsOctet_three located false false)
  | positionSet δ => exact payload_eq_layout rfl (flagsOctet_three located false false)
  | reverseSuspend => exact payload_eq_layout rfl (flagsOctet_three located false false)
  | locationLost was => exact payload_eq_layout rfl (flagsOctet_three located was false)

/-! ### The arbiter's choice (R166, R186) -/

theorem countIn_eq_zero {x : Ext} {st : ContextState} (h : ∀ j : Fin 32, (x.contexts[j]).state ≠ st) : x.countIn st = 0 := by
  rw [Ext.countIn, List.length_eq_zero_iff, List.filter_eq_nil_iff]
  intro c hc hst
  obtain ⟨j, hj, rfl⟩ := Vector.mem_iff_getElem.mp (Vector.mem_toList_iff.mp hc)
  exact h ⟨j, hj⟩ (beq_iff_eq.mp hst)

theorem nextPosted_of_head {x : Ext} {k : Fin 32} {rest : List (Fin 32)} (hp : x.posted = k :: rest)
    (h : ∀ j : Fin 32, (x.contexts[j]).state ≠ .sending) : x.nextPosted = some k := by
  rw [Ext.nextPosted, if_pos (countIn_eq_zero h), hp]
  rfl

theorem nextPosted_of_nil {x : Ext} (hp : x.posted = []) : x.nextPosted = none := by
  unfold Ext.nextPosted
  rw [hp]
  exact ite_self none

theorem arbiterChoice_of_go {s : State} (hl : s.ltx.lane = .idle) (hg : s.ltx.hold = .go) :
    s.arbiterChoice = s.chooseFrame := if_pos ⟨hl, hg⟩

theorem arbiterChoice_of_waiting {s : State} (h : s.ltx.lane ≠ .idle ∨ s.ltx.hold = .hold) : s.arbiterChoice = s := by
  refine if_neg ?_
  rintro ⟨hl, hg⟩
  rcases h with hlane | hhold
  · exact hlane hl
  · rw [hg] at hhold
    cases hhold

section

variable {s : State} (ha : s.ltx.alerts = []) (hf : s.ltx.forward = []) (hr : s.ltx.responses = [])
  (hloc : s.ltx.locations = []) (hseg : s.ltx.segments = [])

theorem chooseFrame_of_alert {a : AlertRecord} {rest : List AlertRecord} (h : s.ltx.alerts = a :: rest) :
    s.chooseFrame = s.takeAlert a rest := by
  unfold State.chooseFrame
  rw [h]

include ha

theorem chooseFrame_of_forward {f : List Octet} {rest : List (List Octet)} (h : s.ltx.forward = f :: rest) :
    s.chooseFrame = s.takeForward f := by
  unfold State.chooseFrame
  rw [ha, h]

include hf

theorem chooseFrame_of_response {r : Response} {rest : List Response} (h : s.ltx.responses = r :: rest) :
    s.chooseFrame = s.takeResponse r rest := by
  unfold State.chooseFrame
  rw [ha, hf, h]

include hr

theorem chooseFrame_of_location {r : LocationRecord} {rest : List LocationRecord} (h : s.ltx.locations = r :: rest) :
    s.chooseFrame = s.takeLocation r rest := by
  unfold State.chooseFrame State.chooseReports
  rw [ha, hf, hr, h]

include hloc

theorem chooseFrame_of_context {k : Fin 32} (h : s.ext.nextPosted = some k) :
    s.chooseFrame = s.takeContext k s.ext.posted.tail := by
  unfold State.chooseFrame State.chooseReports
  rw [ha, hf, hr, hloc, h]

theorem chooseFrame_of_segment (hp : s.ext.posted = []) {r : SegmentRecord} {rest : List SegmentRecord}
    (h : s.ltx.segments = r :: rest) : s.chooseFrame = s.takeSegment r rest := by
  unfold State.chooseFrame State.chooseReports State.chooseRecords
  rw [ha, hf, hr, hloc, nextPosted_of_nil hp, h]

include hseg

theorem chooseFrame_of_block (hp : s.ext.posted = []) {i : Fin 2} {rest : List (Fin 2)} (h : s.ltx.closedOrder = i :: rest) :
    s.chooseFrame = s.takeBlock i rest := by
  unfold State.chooseFrame State.chooseReports State.chooseRecords
  rw [ha, hf, hr, hloc, nextPosted_of_nil hp, hseg, h]

theorem chooseFrame_of_nothing (hp : s.ext.posted = []) (h : s.ltx.closedOrder = []) : s.chooseFrame = s := by
  unfold State.chooseFrame State.chooseReports State.chooseRecords
  rw [ha, hf, hr, hloc, nextPosted_of_nil hp, hseg, h]

end

/-! ### Row blocks closed (R194) -/

theorem closeBuffer_of_not_filling {l : Ltx} {i : Fin 2} (h : ∀ b, l.buffers[i] ≠ .filling b) : l.closeBuffer i = l := by
  rcases closeBuffer_cases l i with ⟨_, hc⟩ | ⟨b, hb, _⟩
  · exact hc
  · exact absurd hb (h b)

theorem closeBuffer_of_filling {l : Ltx} {i : Fin 2} {b : Block} (h : l.buffers[i] = .filling b) :
    l.closeBuffer i = { l with buffers := l.buffers.set i.val (.pending b), closedOrder := l.closedOrder ++ [i] } := by
  unfold Ltx.closeBuffer
  rw [h]

/-- R194: the one OPEN buffer closes. -/
theorem closeBlock_of_filling {l : Ltx} {i : Fin 2} {b : Block} (h : l.buffers[i] = .filling b)
    (hother : ∀ (j : Fin 2) (c : Block), j ≠ i → l.buffers[j] ≠ .filling c) :
    l.closeBlock = { l with buffers := l.buffers.set i.val (.pending b), closedOrder := l.closedOrder ++ [i] } := by
  unfold Ltx.closeBlock
  match i with
  | 0 =>
    rw [closeBuffer_of_filling h]
    refine closeBuffer_of_not_filling fun c => ?_
    dsimp only
    rw [getElem_set_fin l.buffers 0 1, if_neg (by decide)]
    exact hother 1 c (by decide)
  | 1 =>
    rw [closeBuffer_of_not_filling (i := 0) fun c => hother 0 c (by decide)]
    exact closeBuffer_of_filling h

end Sys2Proof.Machine

/-! The statements about the arbiter, the payloads and what joins or closes. -/

namespace Sys2Proof.Proofs

open Sys2Proof Sys2Proof.Machine

/-- Settles O48: by whether a block is OPEN, and whether the queue has room. -/
theorem blocksCloseAndRecordsJoinOrAreCounted : Obligations.BlocksCloseAndRecordsJoinOrAreCounted := by
  unfold Obligations.BlocksCloseAndRecordsJoinOrAreCounted
  refine ⟨fun l h => ?_, fun l i b => closeBlock_of_filling, fun l r => ⟨fun h => ?_, fun h => ?_⟩,
    fun l r => ⟨fun h => ?_, fun h => ?_⟩⟩
  · rw [Ltx.closeBlock, closeBuffer_of_not_filling (h 0), closeBuffer_of_not_filling (h 1)]
  · exact if_pos h
  · exact if_neg (not_lt.mpr h)
  · exact if_pos h
  · exact if_neg (not_lt.mpr h)

/-- Settles O49: the payloads by their flags and fields, the choice by the first queue in rank order that is not empty. -/
theorem theArbiterTakesTheFirstKindInRank : Obligations.TheArbiterTakesTheFirstKindInRank := by
  unfold Obligations.TheArbiterTakesTheFirstKindInRank
  refine ⟨fun s => ⟨rfl, rfl⟩, fun s h => congrArg Host.Outcome.next (arbiterChoice_of_waiting h), fun _ _ _ _ => rfl,
    fun w x => ⟨octetsOf_length w x, fun i => getElem?_octetsOf w x⟩,
    ⟨fun r => ⟨r.payload_length, ?_⟩, fun b => ⟨b.payload_length, ?_⟩, fun k x c hc => ⟨x.payload_length k, ?_⟩,
      fun a => ⟨a.payload_length, ?_⟩, fun r => ⟨r.payload_length, r.payload_eq⟩, fun r => ⟨r.payload_length, ?_⟩⟩,
    fun s hl hg => ?_⟩
  · rfl
  · unfold Block.payload
    rw [flagsOctet_one, funext (Row.octets_eq b.mask)]
    rfl
  · unfold ExceptionRecord.payload
    rw [hc, x.flagsOctet_eq]
    rfl
  · unfold AlertRecord.payload
    rw [a.flagsOctet_eq, a.contextOctet_eq]
    rfl
  · unfold SegmentRecord.payload
    rw [r.segment.flagsOctet_eq, funext SlotResult.octets_eq]
    rfl
  · have hchoice : ∀ {t : State}, s.chooseFrame = t → exec .arbiterChoice s = .next t := fun h =>
      congrArg Host.Outcome.next ((arbiterChoice_of_go hl hg).trans h)
    refine ⟨fun a rest h => hchoice (chooseFrame_of_alert h), fun ha => ⟨fun f rest h => hchoice (chooseFrame_of_forward ha h),
      fun hf => ⟨fun r rest h => hchoice (chooseFrame_of_response ha hf h), fun hr =>
        ⟨fun r rest h => hchoice (chooseFrame_of_location ha hf hr h), fun hloc => ⟨fun k rest hp hs => hchoice ?_, fun hp =>
          ⟨fun r rest h => hchoice (chooseFrame_of_segment ha hf hr hloc hp h), fun hseg => ⟨fun i b rest ho hb => hchoice ?_,
            fun ho => hchoice (chooseFrame_of_nothing ha hf hr hloc hseg hp ho)⟩⟩⟩⟩⟩⟩⟩
    · rw [chooseFrame_of_context ha hf hr hloc (nextPosted_of_head hp hs), hp]
      rfl
    · rw [chooseFrame_of_block ha hf hr hloc hseg hp ho]
      exact takeBlock_of_pending hb rest

end Sys2Proof.Proofs


/-! SUPPORT. Where the scan of the section table stops, the section it finds, and what LOC does with a sample and a gap notice
(R85 to R87, R100, R101). -/

namespace Sys2Proof.Machine

/-! ### The scan (R101) -/

theorem getElem?_length_takeWhile {α : Type} (p : α → Bool) (l : List α) :
    l[(l.takeWhile p).length]? = (l.dropWhile p).head? := by
  induction l with
  | nil => rfl
  | cons x l ih => by_cases hx : p x = true <;> simp [hx, ih]

theorem head?_dropWhile_eq_some {α : Type} {p : α → Bool} {l : List α} {x : α} (h : (l.dropWhile p).head? = some x) :
    p x = false := by
  have hnot := List.head?_dropWhile_not p l
  rw [h] at hnot
  exact hnot

section

variable (l : Loc) (position : Int)

/-- R101: a section that ends at or before the position. -/
def SectionEntry.ended (position : Int) (x : SectionEntry) : Bool := decide (x.finish ≤ position)

theorem scan_eq : l.scan position = l.cursor.getD 0 +
    ((l.sections.drop (l.cursor.getD 0)).takeWhile (SectionEntry.ended position)).length := rfl

theorem cursor_le_scan : l.cursor.getD 0 ≤ l.scan position := Nat.le_add_right ..

variable {l position}

/-- R101, step 1: every section passed over ends at or before the position. -/
theorem finish_le_of_scanned {i : Nat} {z : SectionEntry} (hlow : l.cursor.getD 0 ≤ i) (hhigh : i < l.scan position)
    (hz : l.sections[i]? = some z) : z.finish ≤ position := by
  have hlen : i - l.cursor.getD 0 <
      ((l.sections.drop (l.cursor.getD 0)).takeWhile (SectionEntry.ended position)).length := by
    rw [scan_eq] at hhigh
    omega
  have hdrop : (l.sections.drop (l.cursor.getD 0))[i - l.cursor.getD 0]? = some z := by
    rw [List.getElem?_drop, Nat.add_sub_cancel' hlow, hz]
  have htake : ((l.sections.drop (l.cursor.getD 0)).takeWhile (SectionEntry.ended position))[i - l.cursor.getD 0]? =
      some z := by
    have hprefix := (List.takeWhile_prefix (SectionEntry.ended position) (l := l.sections.drop (l.cursor.getD 0))).getElem hlen
    rw [List.getElem?_eq_getElem hlen, hprefix, ← List.getElem?_eq_getElem, hdrop]
  have hended : z.ended position = true := List.mem_takeWhile_imp (List.mem_of_getElem? htake)
  exact of_decide_eq_true hended

/-- R101, step 2: the section the scan stops at ends past the position. -/
theorem lt_finish_of_scan {z : SectionEntry} (hz : l.sections[l.scan position]? = some z) : position < z.finish := by
  rw [scan_eq, ← List.getElem?_drop, getElem?_length_takeWhile] at hz
  have hkept : z.ended position = false := head?_dropWhile_eq_some hz
  exact not_le.mp (of_decide_eq_false hkept)

theorem sectionAt_of_inside {z : SectionEntry} (hz : l.sections[l.scan position]? = some z) (h : z.start ≤ position) :
    l.sectionAt position = some z := by
  simp only [Loc.sectionAt, hz, h, if_true]

theorem sectionAt_of_before {z : SectionEntry} (hz : l.sections[l.scan position]? = some z) (h : position < z.start) :
    l.sectionAt position = none := by
  simp only [Loc.sectionAt, hz, if_neg (not_le.mpr h)]

theorem sectionAt_of_past (hz : l.sections[l.scan position]? = none) : l.sectionAt position = none := by
  simp only [Loc.sectionAt, hz]

/-- R98, R101: a scan from the head stops at the section that contains the position, if one does. -/
theorem getElem?_scan_of_contains (horder : l.sections.Pairwise SectionEntry.Precedes) (hc : l.cursor = none)
    {z : SectionEntry} (hz : z ∈ l.sections) (hstart : z.start ≤ position) (hfinish : position < z.finish) :
    l.sections[l.scan position]? = some z := by
  obtain ⟨i, hi⟩ := List.mem_iff_getElem?.mp hz
  have hscan : l.scan position ≤ i := by
    by_contra hlt
    have hend := finish_le_of_scanned (by simp [hc]) (not_le.mp hlt) hi
    omega
  rcases hscan.lt_or_eq with hlt | heq
  · exfalso
    obtain ⟨hlen, hget⟩ := List.getElem?_eq_some_iff.mp hi
    have hw := lt_finish_of_scan (List.getElem?_eq_getElem (hlt.trans hlen))
    have hprecedes := (List.pairwise_iff_getElem.mp horder) _ _ (hlt.trans hlen) hlen hlt
    rw [hget] at hprecedes
    have hbefore := hprecedes.2
    omega
  · rw [heq]
    exact hi

end

/-! ### Retirement (R100) -/

/-- R100: the sections retired at a position. -/
def Loc.gone (l : Loc) (position : Int) : List SectionEntry := l.sections.takeWhile fun x => x.retired position

theorem gone_append_retire (l : Loc) (position : Int) : l.sections = l.gone position ++ (l.retire position).sections :=
  (List.takeWhile_append_dropWhile ..).symm

theorem retired_of_mem_gone {l : Loc} {position : Int} {z : SectionEntry} (h : z ∈ l.gone position) :
    z.finish + 2000000 ≤ position := by
  have hretired : z.retired position = true := List.mem_takeWhile_imp (p := fun x : SectionEntry => x.retired position) h
  exact of_decide_eq_true hretired

theorem not_retired_of_head {l : Loc} {position : Int} {z : SectionEntry} (h : (l.retire position).sections.head? = some z) :
    position < z.finish + 2000000 := by
  have hkept : z.retired position = false := head?_dropWhile_eq_some (p := fun x : SectionEntry => x.retired position) h
  exact not_le.mp (of_decide_eq_false hkept)

/-- R100: the cursor moves back by as many entries as were retired. -/
theorem retire_cursor (l : Loc) (position : Int) :
    (l.retire position).cursor.getD 0 = match l.cursor with | some c => c - (l.gone position).length | none => 0 := by
  have hlen : l.sections.length - (l.retire position).sections.length = (l.gone position).length := by
    have := congrArg List.length (gone_append_retire l position)
    rw [List.length_append] at this
    omega
  rw [← hlen]
  cases h : l.cursor <;> simp [Loc.retire, h]

/-! ### A sample and a gap notice at LOC (R85, R86) -/

theorem locSample_of_kept {s : State} {x : Sample} {rest : List OdoItem} (hl : s.links.odoToLoc = .sample x :: rest)
    (hn : s.links.locToMse = none) (hm : s.cmu.runState = .measuring) (hr : x.run = s.cmu.runNumber) :
    s.locSample = { s with
      loc := (s.loc.takeSample s.cmu.config.defaultBand x).1
      links := { s.links with
        odoToLoc := rest, locToMse := some (.sample (s.loc.takeSample s.cmu.config.defaultBand x).2) } } := by
  have hitem : s.locItem = some (.sample x) := locItem_eq_some.mpr ⟨hn, rest, hl⟩
  have hkeeps := (keeps_iff s x.run).mpr ⟨hm, hr⟩
  simp only [State.locSample, hitem, hkeeps, if_true, hl, List.tail_cons]
  rfl

theorem locGap_of_kept {s : State} {rest : List OdoItem} (hl : s.links.odoToLoc = .gap s.cmu.runNumber :: rest)
    (hn : s.links.locToMse = none) (hm : s.cmu.runState = .measuring) :
    s.locGap = { s with
      links := { s.links with odoToLoc := rest, locToMse := some (.gap s.cmu.runNumber) } } := by
  have hitem : s.locItem = some (.gap s.cmu.runNumber) := locItem_eq_some.mpr ⟨hn, rest, hl⟩
  have hkeeps := (keeps_iff s s.cmu.runNumber).mpr ⟨hm, rfl⟩
  simp only [State.locGap, hitem, hkeeps, if_true, hl, List.tail_cons]
  rfl

theorem loc_of_handed {s : State} (h : s.links.locToMse ≠ none) : s.locSample = s ∧ s.locGap = s := by
  have hitem : s.locItem = none := by
    unfold State.locItem
    split
    · next hn => exact absurd hn h
    · rfl
  simp [State.locSample, State.locGap, hitem]

theorem takeSample_of_located {l : Loc} (h : l.located = true) (band : Fin 5) (x : Sample) :
    l.takeSample band x =
      ({ l.retire (l.locate x) with cursor := some ((l.retire (l.locate x)).scan (l.locate x)) },
        l.attributed band x ((l.retire (l.locate x)).sectionAt (l.locate x))) := if_pos h

/-- R86, R87: the attributes of a sample are those of the section found. -/
theorem attributes_of_found {l m : Loc} {p : Int} {z : SectionEntry} (h : m.sectionAt p = some z) (band : Fin 5) (x : Sample) :
    (l.attributed band x (m.sectionAt p)).band = z.band ∧ (l.attributed band x (m.sectionAt p)).suppress = z.suppress ∧
      (l.attributed band x (m.sectionAt p)).cant = z.cant := by
  rw [h]
  exact ⟨rfl, rfl, rfl⟩

/-- R86, R87: without a section the attributes are the defaults. -/
theorem attributes_of_none {l m : Loc} {p : Int} (h : m.sectionAt p = none) (band : Fin 5) (x : Sample) :
    (l.attributed band x (m.sectionAt p)).band = band ∧ (l.attributed band x (m.sectionAt p)).suppress = 0 ∧
      (l.attributed band x (m.sectionAt p)).cant = none := by
  rw [h]
  exact ⟨rfl, rfl, rfl⟩

theorem takeSample_of_unlocated {l : Loc} (h : l.located = false) (band : Fin 5) (x : Sample) :
    l.takeSample band x = (l, l.attributed band x none) := if_neg (by simp [h])

end Sys2Proof.Machine

/-! The statement about samples at LOC. -/

namespace Sys2Proof.Proofs

open Sys2Proof Sys2Proof.Machine

/-- Settles O36: retirement splits the table, the scan stops at the first section that ends past the position, and the section
there, if it holds the position, gives the attributes. -/
theorem samplesTakeTheirPositionAndSection : Obligations.SamplesTakeTheirPositionAndSection := by
  unfold Obligations.SamplesTakeTheirPositionAndSection
  refine ⟨fun s x rest hl hn hm hr => ?_, fun s rest hl hn hm => congrArg Host.Outcome.next (locGap_of_kept hl hn hm),
    fun s h => ⟨congrArg Host.Outcome.next (loc_of_handed h).1, congrArg Host.Outcome.next (loc_of_handed h).2⟩⟩
  refine ⟨_, (s.loc.takeSample s.cmu.config.defaultBand x).2, congrArg Host.Outcome.next (locSample_of_kept hl hn hm hr), rfl, ?_⟩
  cases hloc : s.loc.located with
  | false =>
    rw [takeSample_of_unlocated hloc]
    exact ⟨rfl, rfl, congrArg not hloc, rfl, fun _ => ⟨rfl, rfl, rfl, rfl⟩, nofun⟩
  | true =>
    rw [takeSample_of_located hloc]
    have hcursor := retire_cursor s.loc (s.loc.locate x)
    refine ⟨rfl, rfl, congrArg not hloc, rfl, nofun, fun _ => ⟨s.loc.gone (s.loc.locate x),
      (s.loc.retire (s.loc.locate x)).scan (s.loc.locate x), gone_append_retire _ _, fun z => retired_of_mem_gone,
      fun z => not_retired_of_head, rfl, hcursor.symm.le.trans (cursor_le_scan _ _), fun i z hlow hhigh hz => ?_,
      fun z hz => ?_, fun hz => ?_, fun hlawful hc => ⟨fun z hz hstart hfinish => ?_, fun hnot => ?_⟩⟩⟩
    · exact finish_le_of_scanned (hcursor.le.trans hlow) hhigh hz
    · exact ⟨lt_finish_of_scan (l := s.loc.retire (s.loc.locate x)) hz, fun h => attributes_of_found (sectionAt_of_inside hz h) _ x,
        fun h => attributes_of_none (sectionAt_of_before hz h) _ x⟩
    · exact attributes_of_none (sectionAt_of_past hz) _ x
    · have horder := (retire_lawful hlawful (s.loc.locate x)).sectionOrder
      have hnone : (s.loc.retire (s.loc.locate x)).cursor = none := congrArg (Option.map _) hc
      have hscan := getElem?_scan_of_contains horder hnone hz hstart hfinish
      exact attributes_of_found (sectionAt_of_inside hscan hstart) _ x
    · cases hz : (s.loc.retire (s.loc.locate x)).sections[(s.loc.retire (s.loc.locate x)).scan (s.loc.locate x)]? with
      | none => exact attributes_of_none (sectionAt_of_past hz) _ x
      | some z =>
        have hbefore : s.loc.locate x < z.start := by
          by_contra hstart
          exact hnot z (List.mem_of_getElem? hz) ⟨not_lt.mp hstart, lt_finish_of_scan hz⟩
        exact attributes_of_none (sectionAt_of_before hz hbefore) _ x

end Sys2Proof.Proofs


/-! SUPPORT. What a row and a gap notice do at STU: the segment test, the segment the row opens or joins, and each slot (R171 to
R175, R177 to R180). -/

namespace Sys2Proof.Machine

/-! ### The segment test (R172 to R174) -/

/-- R173: STU once the segment test has left a segment in progress, a fresh one clearing the accumulators. -/
def Stu.tested (x : Stu) (g : Segment) (fresh : Bool) : Stu :=
  { x with
    segment := some g
    openAfterStart := if fresh then false else x.openAfterStart
    accumulators := if fresh then Vector.replicate 8 .zero else x.accumulators }

/-- R172 to R174: the segment the test leaves, whether it is a fresh one, and the record of the segment it closed. -/
structure Stu.TestedAs (x : Stu) (c : ConfigRecord) (r : Row) (g : Segment) (fresh : Bool) (record : Option SegmentRecord) :
    Prop where
  test : x.segmentTest c r = (x.tested g fresh, record)
  opens : x.segment = none → fresh = true ∧ g = x.newSegment c r false ∧ record = none
  corrects : ∀ old, x.segment = some old → old.epoch ≠ r.epoch →
    fresh = true ∧ g = x.newSegment c r true ∧ record = some (x.segmentRecord { old with corrected := true })
  leaves : ∀ old, x.segment = some old → old.epoch = r.epoch → old.number ≠ segmentNumber c r.position →
    fresh = true ∧ g = x.newSegment c r false ∧ record = some (x.segmentRecord old)
  joins : ∀ old, x.segment = some old → old.epoch = r.epoch → old.number = segmentNumber c r.position →
    fresh = false ∧ g = old.join r ∧ record = none

theorem segmentTest_testedAs (x : Stu) (c : ConfigRecord) (r : Row) : ∃ g fresh record, x.TestedAs c r g fresh record := by
  cases hs : x.segment with
  | none =>
    exact ⟨_, true, none, by simp only [Stu.segmentTest, hs]; rfl, fun _ => ⟨rfl, rfl, rfl⟩, by simp [hs], by simp [hs],
      by simp [hs]⟩
  | some old =>
    by_cases he : old.epoch = r.epoch
    · by_cases hn : old.number = segmentNumber c r.position
      · refine ⟨_, false, none, by simp only [Stu.segmentTest, hs, he, hn, ne_eq, not_true, if_false, if_true]; rfl, by simp [hs],
          ?_, ?_, ?_⟩
        all_goals
          intro o ho
          obtain rfl := Option.some.inj (hs.symm.trans ho)
        · exact fun hne => absurd he hne
        · exact fun _ hne => absurd hn hne
        · exact fun _ _ => ⟨rfl, rfl, rfl⟩
      · refine ⟨_, true, _, by simp only [Stu.segmentTest, hs, he, ne_eq, not_true, if_false, if_neg hn]; rfl, by simp [hs],
          ?_, ?_, ?_⟩
        all_goals
          intro o ho
          obtain rfl := Option.some.inj (hs.symm.trans ho)
        · exact fun hne => absurd he hne
        · exact fun _ _ => ⟨rfl, rfl, rfl⟩
        · exact fun _ hnum => absurd hnum hn
    · refine ⟨_, true, _, by simp only [Stu.segmentTest, hs, ne_eq, he, not_false_iff, if_true]; rfl, by simp [hs], ?_, ?_, ?_⟩
      all_goals
        intro o ho
        obtain rfl := Option.some.inj (hs.symm.trans ho)
      · exact fun _ => ⟨rfl, rfl, rfl⟩
      · exact fun heq => absurd heq he
      · exact fun heq => absurd heq he

theorem newSegment_of_uncorrected (x : Stu) (c : ConfigRecord) (r : Row) : x.newSegment c r false =
    { number := segmentNumber c r.position, epoch := r.epoch, first := r.ref, last := r.ref, rowCount := 1, invalidRows := 0,
      partSegment := x.openAfterStart, unlocated := r.unlocated, frozen := x.frozen, corrected := false,
      truncated := false } := by
  rw [Stu.newSegment, Bool.or_false]

theorem newSegment_of_corrected (x : Stu) (c : ConfigRecord) (r : Row) : x.newSegment c r true =
    { number := segmentNumber c r.position, epoch := r.epoch, first := r.ref, last := r.ref, rowCount := 1, invalidRows := 0,
      partSegment := true, unlocated := r.unlocated, frozen := x.frozen, corrected := false, truncated := false } := by
  rw [Stu.newSegment, Bool.or_true]

theorem tested_accumulators (x : Stu) (g : Segment) (fresh : Bool) (i : Fin 8) :
    (x.tested g fresh).accumulators[i] = if fresh then .zero else x.accumulators[i] := by
  cases fresh with
  | true => exact getElem_replicate_fin _ i
  | false => rfl

/-! ### The row counted (R177 to R180) -/

theorem any_findsInvalid_iff (x : Stu) (r : Row) : (x.slots.toList.any fun e => e.findsInvalid r) = true ↔
    ∃ (i : Fin 8) (m : Fin 16), (x.slots[i]).enabled = true ∧ (x.slots[i]).source = .measure m ∧
      (r.measures[m]).valid = false := by
  have hslot : ∀ e : SlotEntry, e.findsInvalid r = true ↔
      ∃ m : Fin 16, e.enabled = true ∧ e.source = .measure m ∧ (r.measures[m]).valid = false := by
    intro e
    unfold SlotEntry.findsInvalid
    cases e.source with
    | measure m => simp
    | openCount => simp
    | speed => simp
  rw [List.any_eq_true]
  constructor
  · rintro ⟨e, he, hfinds⟩
    obtain ⟨i, hi, rfl⟩ := Vector.mem_iff_getElem.mp (Vector.mem_toList_iff.mp he)
    obtain ⟨m, hm⟩ := (hslot _).mp hfinds
    exact ⟨⟨i, hi⟩, m, hm⟩
  · rintro ⟨i, m, hm⟩
    exact ⟨x.slots[i], Vector.mem_toList_iff.mpr (Vector.getElem_mem i.isLt), (hslot _).mpr ⟨m, hm⟩⟩

/-- R178, R180: the segment in progress once the row is counted, or withheld. -/
def Stu.countedSegment (x : Stu) (r : Row) (g : Segment) : Segment :=
  if x.frozen = false ∧ (x.slots.toList.any fun e => e.findsInvalid r) = true then
    { g with invalidRows := countUp Config.wideCountMax g.invalidRows }
  else g

theorem countRow_eq {x : Stu} {g : Segment} (hg : x.segment = some g) (r : Row) (openCount : Nat) :
    x.countRow r openCount = { x with
      accumulators := (x.countRow r openCount).accumulators
      edges := (x.countRow r openCount).edges
      segment := some (x.countedSegment r g) } := by
  unfold Stu.countRow Stu.countedSegment
  by_cases hf : x.frozen = true
  · rw [if_pos hf, if_neg (by simp [hf]), ← hg]
  · have hthawed : x.frozen = false := by simpa using hf
    simp only [hthawed, Bool.false_eq_true, if_false, true_and, Stu.segmentCounted, hg, Option.map_some]

theorem countRow_of_not_counted {x : Stu} {r : Row} {openCount : Nat} {i : Fin 8}
    (h : x.frozen = true ∨ (x.slots[i]).counts r openCount = none) :
    (x.countRow r openCount).accumulators[i] = x.accumulators[i] ∧ (x.countRow r openCount).edges[i] = x.edges[i] := by
  unfold Stu.countRow
  rcases h with hf | hc
  · rw [if_pos hf]
    exact ⟨rfl, rfl⟩
  · split
    · exact ⟨rfl, rfl⟩
    · rw [getElem_ofFn_fin, getElem_ofFn_fin, Stu.accumulatorsAfter, Stu.edgeAfter, hc]
      exact ⟨rfl, rfl⟩

theorem countRow_of_counted {x : Stu} {r : Row} {openCount : Nat} {i : Fin 8} {v : Int} (hf : x.frozen = false)
    (hc : (x.slots[i]).counts r openCount = some v) :
    (x.countRow r openCount).accumulators[i] = (x.accumulators[i]).add v r.ref ((x.slots[i]).countsOne (x.edges[i]) v) ∧
      (x.countRow r openCount).edges[i] = (x.slots[i]).qualifies v := by
  unfold Stu.countRow
  rw [if_neg (by simp [hf]), getElem_ofFn_fin, getElem_ofFn_fin, Stu.accumulatorsAfter, Stu.edgeAfter, hc]
  exact ⟨rfl, rfl⟩

/-- R177: a row that the slot leaves out. -/
theorem counts_of_excluded {e : SlotEntry} {r : Row} {openCount : Nat}
    (h : ¬(e.enabled = true ∧ ¬(r.lowSpeed = true ∧ e.excludeLowSpeed = true)) ∨ e.source.value? r openCount = none) :
    e.counts r openCount = none := by
  unfold SlotEntry.counts
  rcases h with hex | hv
  · refine if_neg ?_
    simpa using hex
  · rw [hv]
    exact ite_self none

/-- R177: a row that counts counts with the slot's source value. -/
theorem counts_of_included {e : SlotEntry} {r : Row} {openCount : Nat}
    (h : e.enabled = true ∧ ¬(r.lowSpeed = true ∧ e.excludeLowSpeed = true)) :
    e.counts r openCount = e.source.value? r openCount := by
  refine if_pos ?_
  rw [Bool.and_eq_true, Bool.not_eq_true', ← Bool.not_eq_true, Bool.and_eq_true]
  exact h

theorem countsOne_eq (e : SlotEntry) (edge : Bool) (v : Int) : e.countsOne edge v =
    ((decide (e.function = .above) && e.qualifies v) || (decide (e.function = .starts) && e.qualifies v && !edge)) := by
  unfold SlotEntry.countsOne
  cases e.function <;> simp

/-- R178: a counted row, accumulator by accumulator. -/
theorem add_eq (a : Accumulators) (v : Int) (row : RowRef) (k : Bool) : a.add v row k =
    { n := min (a.n + 1) 4294967295
      sum := max (-9223372036854775808) (min (a.sum + v) 9223372036854775807)
      sumSq := min (a.sumSq + v.natAbs * v.natAbs) 18446744073709551615
      count := min (a.count + if k then 1 else 0) 4294967295
      peak := match a.peak with
        | none => some { value := v, row := row }
        | some p => if p.value.natAbs < v.natAbs then some { value := v, row := row } else some p
      sat := a.sat || decide (4294967295 < a.n + 1 ∨ a.sum + v < -9223372036854775808 ∨
        9223372036854775807 < a.sum + v ∨ 18446744073709551615 < a.sumSq + v.natAbs * v.natAbs ∨
        4294967295 < a.count + if k then 1 else 0) } := by
  have hcount : a.exactCount k = a.count + if k then 1 else 0 := by cases k <;> rfl
  have hpeak : some (peakAfter a.peak v row) = match a.peak with
      | none => some { value := v, row := row }
      | some p => if p.value.natAbs < v.natAbs then some { value := v, row := row } else some p := by
    unfold peakAfter
    cases a.peak with
    | none => rfl
    | some p => exact apply_ite some _ _ _
  have hover : a.overflows v k = decide (4294967295 < a.n + 1 ∨ a.sum + v < -9223372036854775808 ∨
        9223372036854775807 < a.sum + v ∨ 18446744073709551615 < a.sumSq + v.natAbs * v.natAbs ∨
        4294967295 < a.count + if k then 1 else 0) := by
    rw [Accumulators.overflows, hcount]
    simp only [Bool.decide_or, Bool.or_assoc]
  rw [Accumulators.add, hcount, hpeak, hover]
  rfl

/-! ### A row and a gap notice at STU (R171, R175) -/

/-- R183: a segment record closed, if there is one, is offered to the segment queue. -/
def Ltx.offerRecord (l : Ltx) : Option SegmentRecord → Ltx
  | none => l
  | some x => l.offerSegment x

theorem placeSegment_eq (s : State) (r : Option SegmentRecord) : s.placeSegment r = s.withLtx (s.ltx.offerRecord r) := by
  cases r <;> rfl

theorem stuRow_of_waiting {s : State} {r : Row} {rest : List RowItem} (hl : s.links.mseToStu = .row r :: rest)
    (hm : s.cmu.runState = .measuring) (hr : r.run = s.cmu.runNumber) (ho : s.ext.openRow ≠ some r.index) : s.stuRow = s := by
  have hkeeps := (keeps_iff s r.run).mpr ⟨hm, hr⟩
  have hwait : s.stuReady r = false := by simp [State.stuReady, hkeeps, ho]
  simp only [State.stuRow, hl, List.head?_cons, hwait, Bool.false_eq_true, if_false]

theorem stuRow_of_ready {s : State} {r : Row} {rest : List RowItem} (hl : s.links.mseToStu = .row r :: rest)
    (hm : s.cmu.runState = .measuring) (hr : r.run = s.cmu.runNumber) (ho : s.ext.openRow = some r.index)
    {x : Stu} {record : Option SegmentRecord} (ht : s.stu.segmentTest s.cmu.config r = (x, record)) :
    s.stuRow = { s with
      stu := x.countRow r s.ext.openCount
      ltx := s.ltx.offerRecord record
      links := { s.links with mseToStu := rest } } := by
  have hkeeps := (keeps_iff s r.run).mpr ⟨hm, hr⟩
  have hready : s.stuReady r = true := by simp [State.stuReady, ho]
  simp only [State.stuRow, hl, List.head?_cons, hready, hkeeps, if_true, Stu.takeRow, ht, placeSegment_eq, Links.takenByStu,
    List.tail_cons]
  rfl

theorem stuGap_of_kept {s : State} {rest : List RowItem} (hl : s.links.mseToStu = .gap s.cmu.runNumber :: rest)
    (hm : s.cmu.runState = .measuring) :
    s.stuGap = { s with
      stu := { s.stu with edges := Vector.replicate 8 false }, links := { s.links with mseToStu := rest } } := by
  have hkeeps := (keeps_iff s s.cmu.runNumber).mpr ⟨hm, rfl⟩
  simp only [State.stuGap, hl, List.head?_cons, hkeeps, if_true, Links.takenByStu, List.tail_cons]
  rfl

end Sys2Proof.Machine

/-! The statement about the rows at STU. -/

namespace Sys2Proof.Proofs

open Sys2Proof Sys2Proof.Machine

/-- Settles O46: the segment test by the segment in progress, then each slot by whether the row counts in it. -/
theorem stuRowsTestTheSegmentThenCount : Obligations.StuRowsTestTheSegmentThenCount := by
  unfold Obligations.StuRowsTestTheSegmentThenCount
  refine ⟨fun s r rest hl hm hr ho => congrArg Host.Outcome.next (stuRow_of_waiting hl hm hr ho),
    fun s rest hl hm => congrArg Host.Outcome.next (stuGap_of_kept hl hm), fun s r rest hl hm hr ho => ?_⟩
  obtain ⟨h, fresh, record, htested⟩ := segmentTest_testedAs s.stu s.cmu.config r
  have hrow := stuRow_of_ready hl hm hr ho htested.test
  intro number here opened findsInvalid counted
  have hcounted : ∀ g, h = g → counted g ((s.stu.tested h fresh).countedSegment r h) := by
    rintro _ rfl
    refine ⟨fun hf hi => if_pos ⟨hf, (any_findsInvalid_iff s.stu r).mpr hi⟩, fun hnot => if_neg ?_⟩
    rintro ⟨hf, hi⟩
    rcases hnot with hfrozen | hfinds
    · exact absurd (hfrozen.symm.trans hf) (by decide)
    · exact hfinds ((any_findsInvalid_iff s.stu r).mp hi)
  refine ⟨_, (s.stu.tested h fresh).countedSegment r h, fresh, congrArg Host.Outcome.next hrow, ?_, ?_, fun hnone => ?_,
    fun old hold => ⟨fun he => ?_, fun he hn => ?_, fun he hn => ?_⟩, fun i => ?_⟩
  · exact congrArg Stu.segment (countRow_eq (x := s.stu.tested h fresh) rfl r s.ext.openCount)
  · exact congrArg (fun x : Stu => ({ s with
      stu := x, ltx := s.ltx.offerRecord record, links := { s.links with mseToStu := rest } } : State))
      (countRow_eq (x := s.stu.tested h fresh) rfl r s.ext.openCount)
  · obtain ⟨rfl, hg, rfl⟩ := htested.opens hnone
    exact ⟨rfl, hcounted _ (hg.trans (newSegment_of_uncorrected ..)), rfl⟩
  · obtain ⟨rfl, hg, rfl⟩ := htested.corrects old hold he
    exact ⟨rfl, hcounted _ (hg.trans (newSegment_of_corrected ..)), rfl⟩
  · obtain ⟨rfl, hg, rfl⟩ := htested.leaves old hold he hn
    exact ⟨rfl, hcounted _ (hg.trans (newSegment_of_uncorrected ..)), rfl⟩
  · obtain ⟨rfl, rfl, rfl⟩ := htested.joins old hold he hn
    exact ⟨rfl, rfl, hcounted _ rfl⟩
  · intro e before value counts
    have hbefore : (s.stu.tested h fresh).accumulators[i] = before := tested_accumulators s.stu h fresh i
    have hvalue : e.source.value? r s.ext.openCount = value := rfl
    refine ⟨fun hnot => ?_, fun v hcounts hv => ?_⟩
    · rw [← hbefore]
      refine countRow_of_not_counted ?_
      cases hf : (s.stu.tested h fresh).frozen with
      | true => exact .inl rfl
      | false =>
        refine .inr (counts_of_excluded (hnot.imp (fun hex hin => hex ⟨hf, hin⟩) fun hv => hvalue.trans hv))
    · have hincluded : e.counts r s.ext.openCount = some v :=
        (counts_of_included hcounts.2).trans (hvalue.trans hv)
      obtain ⟨hacc, hedge⟩ := countRow_of_counted (x := s.stu.tested h fresh) (i := i) hcounts.1 hincluded
      intro qualifies adds count
      refine ⟨hedge, ?_⟩
      have hadds : e.countsOne (s.stu.edges[i]) v = adds := countsOne_eq e (s.stu.edges[i]) v
      rw [hbefore] at hacc
      exact hacc.trans ((congrArg (before.add v here) hadds).trans (add_eq before v here adds))

end Sys2Proof.Proofs


/-! SUPPORT. The result of each slot function, and what the accumulators of a slot that has not saturated hold (R178, R182). -/

namespace Sys2Proof.Machine

/-! ### The results (R182) -/

theorem status_of_empty {a : Accumulators} (h : a.n = 0) : a.status = .empty := if_pos h

theorem status_of_counted {a : Accumulators} (h : 0 < a.n) : a.status = if a.sat then .sat else .ok := if_neg h.ne'

theorem status_of_sat {a : Accumulators} (h : 0 < a.n) (hs : a.sat = true) : a.status = .sat := by
  rw [status_of_counted h, if_pos hs]

theorem status_of_exact {a : Accumulators} (h : 0 < a.n) (hs : a.sat = false) : a.status = .ok := by
  rw [status_of_counted h, if_neg (by simp [hs])]

theorem sigma_of_not_ok {a : Accumulators} (h : a.status ≠ .ok) : a.result .sigma = none ∧ a.aux .sigma = none :=
  ⟨if_neg h, if_neg h⟩

theorem sigma_of_ok {a : Accumulators} (h : a.status = .ok) :
    a.result .sigma = some a.sigma ∧ a.aux .sigma = some (nearest a.sum a.n) := ⟨if_pos h, if_pos h⟩

theorem peak_of_empty {a : Accumulators} (h : a.status = .empty) : a.result .peak = none ∧ a.aux .peak = none :=
  ⟨if_pos h, if_pos h⟩

theorem peak_of_counted {a : Accumulators} (h : 0 < a.n) {p : SlotPeak} (hp : a.peak = some p) :
    a.result .peak = some p.value ∧ a.aux .peak = some p.row.position := by
  have hstatus : a.status ≠ .empty := by
    rw [status_of_counted h]
    split <;> nofun
  exact ⟨(if_neg hstatus).trans (by rw [hp]; rfl), (if_neg hstatus).trans (by rw [hp]; rfl)⟩

/-! ### The sums of the counted values (R178) -/

/-- R178: a counted value, with the row and whether it adds to the count. -/
abbrev Counted : Type := Int × RowRef × Bool

/-- R178: the accumulators of a slot that has counted these values since it was cleared. -/
def countedFrom (xs : List Counted) : Accumulators := xs.foldl (fun a x => a.add x.1 x.2.1 x.2.2) .zero

/-- The sum of the squares of the counted values. -/
def squareSum (xs : List Counted) : Int := (xs.map fun x => x.1 * x.1).sum

theorem countedFrom_append (xs : List Counted) (x : Counted) :
    countedFrom (xs ++ [x]) = (countedFrom xs).add x.1 x.2.1 x.2.2 := List.foldl_concat ..

theorem countedFrom_pos {xs : List Counted} (h : xs ≠ []) : 0 < (countedFrom xs).n := by
  obtain ⟨front, x, rfl⟩ := List.eq_nil_or_concat'  xs |>.resolve_left h
  rw [countedFrom_append]
  show 0 < min ((countedFrom front).n + 1) Config.wideCountMax
  unfold Config.wideCountMax
  omega

/-- R178: an update that no accumulator overflows is exact. -/
theorem add_of_exact {a : Accumulators} {v : Int} {row : RowRef} {k : Bool} (h : (a.add v row k).sat = false) :
    a.sat = false ∧ (a.add v row k).n = a.n + 1 ∧ (a.add v row k).sum = a.sum + v ∧
      ((a.add v row k).sumSq : Int) = a.sumSq + v * v := by
  rw [add_eq] at h ⊢
  simp only [Bool.or_eq_false_iff, decide_eq_false_iff_not, not_or, not_lt] at h
  obtain ⟨hsat, hn, hlow, hhigh, hsq, _⟩ := h
  refine ⟨hsat, by dsimp only; omega, by dsimp only; omega, ?_⟩
  rw [Nat.min_eq_left hsq, Nat.cast_add, Nat.cast_mul, Int.natAbs_mul_self' v]

/-- R178: while a slot has not saturated its accumulators hold the sums of the counted values. -/
theorem countedFrom_of_exact (xs : List Counted) (h : (countedFrom xs).sat = false) :
    (countedFrom xs).n = xs.length ∧ (countedFrom xs).sum = (xs.map Prod.fst).sum ∧
      ((countedFrom xs).sumSq : Int) = squareSum xs := by
  induction xs using List.reverseRecOn with
  | nil => exact ⟨rfl, rfl, rfl⟩
  | append_singleton xs x ih =>
    rw [countedFrom_append] at h ⊢
    obtain ⟨hsat, hn, hsum, hsq⟩ := add_of_exact h
    obtain ⟨ihn, ihsum, ihsq⟩ := ih hsat
    refine ⟨?_, ?_, ?_⟩
    · rw [hn, ihn, List.length_append, List.length_singleton]
    · rw [hsum, ihsum, List.map_append, List.sum_append]
      simp
    · rw [hsq, ihsq]
      simp [squareSum]

/-! ### The law of the mean and of σ (R182) -/

/-- The squares of the distances from any point have a sum that is not negative. -/
theorem distances_nonneg (xs : List Counted) (c : Int) :
    0 ≤ squareSum xs - 2 * c * (xs.map Prod.fst).sum + xs.length * (c * c) := by
  induction xs with
  | nil => simp [squareSum]
  | cons x xs ih =>
    have hsq : 0 ≤ (x.1 - c) * (x.1 - c) := mul_self_nonneg _
    simp only [squareSum, List.map_cons, List.sum_cons, List.length_cons, Nat.cast_add, Nat.cast_one] at ih ⊢
    linarith

theorem sum_mul_self_le (xs : List Counted) : (xs.map Prod.fst).sum * (xs.map Prod.fst).sum ≤ xs.length * squareSum xs := by
  induction xs with
  | nil => simp [squareSum]
  | cons x xs ih =>
    have hdist := distances_nonneg xs x.1
    simp only [squareSum, List.map_cons, List.sum_cons, List.length_cons, Nat.cast_add, Nat.cast_one] at ih hdist ⊢
    linarith

theorem abs_sum_le {xs : List Counted} {bound : Nat} (h : ∀ x ∈ xs, x.1.natAbs ≤ bound) :
    |(xs.map Prod.fst).sum| ≤ xs.length * bound := by
  induction xs with
  | nil => simp
  | cons x xs ih =>
    have hx : |x.1| ≤ bound := by
      rw [Int.abs_eq_natAbs]
      exact_mod_cast h x (List.mem_cons_self ..)
    have hxs := ih fun y hy => h y (List.mem_cons_of_mem x hy)
    have htri := abs_add_le x.1 (xs.map Prod.fst).sum
    simp only [List.map_cons, List.sum_cons, List.length_cons, Nat.cast_add, Nat.cast_one]
    linarith

theorem squareSum_le {xs : List Counted} {bound : Nat} (h : ∀ x ∈ xs, x.1.natAbs ≤ bound) :
    squareSum xs ≤ xs.length * ((bound : Int) * bound) := by
  induction xs with
  | nil => simp [squareSum]
  | cons x xs ih =>
    have hx : x.1 * x.1 ≤ (bound : Int) * bound := by
      have hle : |x.1| ≤ (bound : Int) := by
        rw [Int.abs_eq_natAbs]
        exact_mod_cast h x (List.mem_cons_self ..)
      rw [← abs_mul_abs_self x.1]
      exact mul_le_mul hle hle (abs_nonneg _) (by positivity)
    have hxs := ih fun y hy => h y (List.mem_cons_of_mem x hy)
    simp only [squareSum, List.map_cons, List.sum_cons, List.length_cons, Nat.cast_add, Nat.cast_one] at hxs ⊢
    linarith

/-- R182: a mean rounded to nearest lies within the bound of what it is the mean of. -/
theorem natAbs_nearest_le {s : Int} {n bound : Nat} (hn : 0 < n) (h : |s| ≤ n * bound) : (nearest s n).natAbs ≤ bound := by
  have hn' : (0 : Int) < n := by exact_mod_cast hn
  obtain ⟨hnear, _⟩ := nearest_spec s hn'
  have hmul : (n : Int) * |nearest s n| ≤ |s| + |s - n * nearest s n| := by
    rw [← abs_of_pos hn', ← abs_mul, abs_of_pos hn']
    have := abs_sub_abs_le_abs_sub (n * nearest s n) s
    rw [abs_sub_comm] at this
    linarith
  by_contra hlt
  have hge : (bound : Int) + 1 ≤ |nearest s n| := by
    rw [Int.abs_eq_natAbs]
    exact_mod_cast not_le.mp hlt
  have hbig : (n : Int) * (bound + 1) ≤ n * |nearest s n| := mul_le_mul_of_nonneg_left hge hn'.le
  rw [mul_add, mul_one] at hbig
  linarith

/-- R182: σ is the floor of the root over n: its square lies below the variance times n squared, the next one's above. -/
theorem isqrt_div_spec (v : Nat) {n : Nat} (hn : 0 < n) :
    isqrt v / n * (isqrt v / n) * (n * n) ≤ v ∧ v < (isqrt v / n + 1) * (isqrt v / n + 1) * (n * n) := by
  obtain ⟨hlow, hhigh⟩ := isqrt_spec v
  have hdiv : isqrt v / n * n ≤ isqrt v := Nat.div_mul_le_self ..
  have hnext : isqrt v + 1 ≤ (isqrt v / n + 1) * n := Nat.lt_div_mul_add hn |>.trans_eq (by ring)
  constructor
  · calc isqrt v / n * (isqrt v / n) * (n * n) = isqrt v / n * n * (isqrt v / n * n) := by ring
      _ ≤ isqrt v * isqrt v := Nat.mul_le_mul hdiv hdiv
      _ ≤ v := hlow
  · calc v < (isqrt v + 1) * (isqrt v + 1) := hhigh
      _ ≤ (isqrt v / n + 1) * n * ((isqrt v / n + 1) * n) := Nat.mul_le_mul hnext hnext
      _ = (isqrt v / n + 1) * (isqrt v / n + 1) * (n * n) := by ring

/-- R182: σ of sums that are those of the counted values: its bound, the mean's, and its place below the root. -/
theorem sigma_spec {a : Accumulators} {xs : List Counted} {bound : Nat} (hpos : 0 < a.n)
    (hbound : ∀ x ∈ xs, x.1.natAbs ≤ bound) (hn : a.n = xs.length) (hsum : a.sum = (xs.map Prod.fst).sum)
    (hsq : (a.sumSq : Int) = squareSum xs) :
    0 ≤ a.sigma ∧ a.sigma ≤ bound ∧ (nearest a.sum a.n).natAbs ≤ bound ∧
      a.sigma * a.sigma * (a.n * a.n : Nat) ≤ (a.n : Int) * a.sumSq - a.sum * a.sum ∧
      (a.n : Int) * a.sumSq - a.sum * a.sum < (a.sigma + 1) * (a.sigma + 1) * (a.n * a.n : Nat) := by
  have hvariance : 0 ≤ (a.n : Int) * a.sumSq - a.sum * a.sum := by
    rw [hn, hsq, hsum]
    exact sub_nonneg.mpr (sum_mul_self_le xs)
  obtain ⟨v, hv⟩ := Int.eq_ofNat_of_zero_le hvariance
  have hsigma : a.sigma = ((isqrt v / a.n : Nat) : Int) := by rw [Accumulators.sigma, hv, Int.toNat_natCast]
  obtain ⟨hlow, hhigh⟩ := isqrt_div_spec v hpos
  have hmean : |a.sum| ≤ a.n * bound := by
    rw [hn, hsum]
    exact abs_sum_le hbound
  have htop : (v : Int) ≤ (bound * bound * (a.n * a.n) : Nat) := by
    have hsquares := squareSum_le hbound
    rw [← hsq, ← hn] at hsquares
    have hmul := mul_le_mul_of_nonneg_left hsquares (Int.natCast_nonneg a.n)
    have hsub : 0 ≤ a.sum * a.sum := mul_self_nonneg _
    push_cast
    rw [← hv]
    linarith
  have hle : isqrt v / a.n ≤ bound := by
    have hmul : isqrt v / a.n * (isqrt v / a.n) * (a.n * a.n) ≤ bound * bound * (a.n * a.n) :=
      hlow.trans (by exact_mod_cast htop)
    exact Nat.mul_self_le_mul_self_iff.mp (Nat.le_of_mul_le_mul_right hmul (Nat.mul_pos hpos hpos))
  rw [hsigma, hv]
  exact ⟨Int.natCast_nonneg _, by exact_mod_cast hle, natAbs_nearest_le hpos hmean, by exact_mod_cast hlow,
    by exact_mod_cast hhigh⟩

end Sys2Proof.Machine

/-! The statement about the results of the slots. -/

namespace Sys2Proof.Proofs

open Sys2Proof Sys2Proof.Machine

/-- Settles O47: the results by the status; σ and the mean by the sums of the counted values, whose variance is not negative
and lies below the square of the bound. -/
theorem sigmaNeverExceedsTheLargestMagnitude : Obligations.SigmaNeverExceedsTheLargestMagnitude := by
  unfold Obligations.SigmaNeverExceedsTheLargestMagnitude
  refine ⟨fun a => ⟨fun hn => ?_, status_of_counted, fun hn hs => ?_, fun hn hs _ => ?_, fun hn p hp => peak_of_counted hn hp,
    rfl, rfl, rfl, rfl, rfl, rfl⟩, fun _ _ => rfl, fun xs bound hbound => ?_⟩
  · have hstatus := status_of_empty hn
    obtain ⟨hsigma, hmean⟩ := sigma_of_not_ok (a := a) (by rw [hstatus]; nofun)
    obtain ⟨hpeak, hplace⟩ := peak_of_empty hstatus
    exact ⟨hstatus, hsigma, hmean, hpeak, hplace⟩
  · exact sigma_of_not_ok (by rw [status_of_sat hn hs]; nofun)
  · exact sigma_of_ok (status_of_exact hn hs)
  · show let a := countedFrom xs; _
    intro a
    refine ⟨?_, fun hne hs => ?_, fun hne hs => ?_⟩
    · rintro rfl
      exact ⟨rfl, rfl, rfl, rfl⟩
    · have hstatus := status_of_sat (countedFrom_pos hne) hs
      obtain ⟨hsigma, hmean⟩ := sigma_of_not_ok (a := a) (by rw [hstatus]; nofun)
      exact ⟨hstatus, hsigma, hmean⟩
    · have hpos := countedFrom_pos hne
      have hstatus := status_of_exact hpos hs
      obtain ⟨hsigma, hmean⟩ := sigma_of_ok hstatus
      obtain ⟨hn, hsum, hsq⟩ := countedFrom_of_exact xs hs
      exact ⟨hstatus, hn, congrArg some hsum, a.sigma, nearest a.sum a.n, hsigma, hmean, sigma_spec hpos hbound hn hsum hsq⟩

end Sys2Proof.Proofs


/-! SUPPORT. The frame event against a base frame: the jump, the speed, the motion, the grid points and the mark (R57, R59 to
R80). -/

namespace Sys2Proof.Machine

/-! ### The speed (R61, R62) -/

theorem instantSpeed_eq (d dt : Nat) : instantSpeed d dt = min ((2 * (d * 36) + dt) / (2 * dt)) 65535 := by
  have hnearest : nearest ((d * 36 : Nat) : Int) (dt : Int) = ((2 * (d * 36) + dt) / (2 * dt) : Nat) := by
    rw [nearest, if_pos (Int.natCast_nonneg _)]
    push_cast
    rfl
  rw [instantSpeed, hnearest, Int.toNat_natCast]

theorem filteredSpeed_eq (beta vf v : Nat) :
    (filteredSpeed beta vf v : Int) = (vf : Int) + Int.tdiv ((v : Int) - (vf : Int)) (2 ^ beta) := by
  have hmove := tdiv_between_zero_and_self ((v : Int) - (vf : Int)) (pow_pos (zero_lt_two' ℤ) beta)
  have hpow : ((2 ^ beta : Nat) : Int) = 2 ^ beta := by push_cast; rfl
  unfold filteredSpeed trunc
  rw [hpow]
  omega

/-! ### Steps 3 to 5: jump, speed and motion (R60 to R67) -/

/-- R59 to R67: ODO once the frame has moved it, before the grid. -/
def Odo.moved (o : Odo) (c : ConfigRecord) (measuring : Bool) (base new : CalFrame) : Odo :=
  ({ o with silenceTimer := some c.silenceMs } : Odo).stepFrame c measuring base new

section

variable {o : Odo} {c : ConfigRecord} {measuring : Bool} {base new : CalFrame}

theorem isJump_eq : isJump c base new = decide (100000000 < frameDistance c base new) := rfl

theorem moved_of_jump (h : 100000000 < frameDistance c base new) : o.moved c measuring base new =
    { o with
      silenceTimer := some c.silenceMs, tachFault := true, gapPending := o.gapPending || measuring } :=
  if_pos (decide_eq_true h)

theorem moved_of_smooth (h : ¬100000000 < frameDistance c base new) : o.moved c measuring base new =
    (({ o with silenceTimer := some c.silenceMs } : Odo).stepSpeed c (frameDistance c base new)
      (timeDifference base new)).stepMotion (tachDifference base new) (frameDistance c base new) := by
  refine if_neg ?_
  rw [isJump_eq, decide_eq_true_eq]
  exact h

theorem stepSpeed_frame (o : Odo) (c : ConfigRecord) (d dt : Nat) : ∃ vf low,
    o.stepSpeed c d dt = { o with vf := vf, lowSpeed := low } := by
  unfold Odo.stepSpeed
  split <;> exact ⟨_, _, rfl⟩

theorem stepMotion_frame (o : Odo) (dn : Int) (d : Nat) : ∃ d' r', o.stepMotion dn d = { o with d := d', r := r' } := by
  unfold Odo.stepMotion
  split
  · exact ⟨_, _, rfl⟩
  · split <;> exact ⟨_, _, rfl⟩

/-- R60 to R67: what a frame without a jump leaves as it stands. -/
theorem moved_of_smooth_frame (h : ¬100000000 < frameDistance c base new) : ∃ d r vf low, o.moved c measuring base new =
    { o with silenceTimer := some c.silenceMs, d := d, r := r, vf := vf, lowSpeed := low } := by
  obtain ⟨vf, low, hspeed⟩ := stepSpeed_frame { o with silenceTimer := some c.silenceMs } c (frameDistance c base new)
    (timeDifference base new)
  rw [moved_of_smooth h, hspeed]
  obtain ⟨d, r, hmotion⟩ := stepMotion_frame { o with silenceTimer := some c.silenceMs, vf := vf, lowSpeed := low }
    (tachDifference base new) (frameDistance c base new)
  rw [hmotion]
  exact ⟨d, r, vf, low, rfl⟩

theorem stepMotion_speed (o : Odo) (dn : Int) (d : Nat) :
    (o.stepMotion dn d).vf = o.vf ∧ (o.stepMotion dn d).lowSpeed = o.lowSpeed := by
  obtain ⟨_, _, h⟩ := stepMotion_frame o dn d
  rw [h]
  exact ⟨rfl, rfl⟩

/-- R61 to R63: the speed is kept when no time has passed. -/
theorem moved_speed_of_no_time (h : ¬100000000 < frameDistance c base new) (ht : timeDifference base new = 0) :
    (o.moved c measuring base new).vf = o.vf ∧ (o.moved c measuring base new).lowSpeed = o.lowSpeed := by
  rw [moved_of_smooth h, Odo.stepSpeed, if_pos ht]
  exact stepMotion_speed _ _ _

/-- R61 to R63: the speed and the low-speed state once time has passed. -/
theorem moved_speed_of_time (h : ¬100000000 < frameDistance c base new) (ht : 0 < timeDifference base new) :
    (o.moved c measuring base new).vf =
        filteredSpeed c.speedBeta o.vf (instantSpeed (frameDistance c base new) (timeDifference base new)) ∧
      (o.moved c measuring base new).lowSpeed =
        lowSpeedAfter o.lowSpeed c.minSpeed (o.moved c measuring base new).vf := by
  rw [moved_of_smooth h, Odo.stepSpeed, if_neg ht.ne', (stepMotion_speed _ _ _).1, (stepMotion_speed _ _ _).2]
  exact ⟨rfl, rfl⟩

theorem stepSpeed_motion (o : Odo) (c : ConfigRecord) (d dt : Nat) :
    (o.stepSpeed c d dt).d = o.d ∧ (o.stepSpeed c d dt).r = o.r := by
  obtain ⟨_, _, h⟩ := stepSpeed_frame o c d dt
  rw [h]
  exact ⟨rfl, rfl⟩

/-- R65, R67: a frame that runs back adds to the rollback. -/
theorem moved_of_reverse (h : ¬100000000 < frameDistance c base new) (hn : tachDifference base new < 0) :
    (o.moved c measuring base new).d = o.d ∧
      (o.moved c measuring base new).r = min (o.r + frameDistance c base new) 200000000 := by
  obtain ⟨hd, hr⟩ := stepSpeed_motion { o with silenceTimer := some c.silenceMs } c (frameDistance c base new)
    (timeDifference base new)
  rw [moved_of_smooth h, Odo.stepMotion, if_pos hn]
  dsimp only
  rw [hd, hr]
  exact ⟨rfl, rfl⟩

/-- R65: a frame that does not run back takes from the rollback first. -/
theorem moved_of_rollback (h : ¬100000000 < frameDistance c base new) (hn : 0 ≤ tachDifference base new)
    (hle : frameDistance c base new ≤ o.r) : (o.moved c measuring base new).d = o.d ∧
      (o.moved c measuring base new).r = o.r - frameDistance c base new := by
  obtain ⟨hd, hr⟩ := stepSpeed_motion { o with silenceTimer := some c.silenceMs } c (frameDistance c base new)
    (timeDifference base new)
  have hle' := hr.trans_ge hle
  rw [moved_of_smooth h, Odo.stepMotion, if_neg (not_lt.mpr hn), if_pos hle']
  dsimp only
  rw [hd, hr]
  exact ⟨rfl, rfl⟩

/-- R64: a frame that runs past the rollback advances the odometer. -/
theorem moved_of_advance (h : ¬100000000 < frameDistance c base new) (hn : 0 ≤ tachDifference base new)
    (hlt : o.r < frameDistance c base new) : (o.moved c measuring base new).d =
      min (o.d + (frameDistance c base new - o.r)) 1099511627775 ∧ (o.moved c measuring base new).r = 0 := by
  obtain ⟨hd, hr⟩ := stepSpeed_motion { o with silenceTimer := some c.silenceMs } c (frameDistance c base new)
    (timeDifference base new)
  have hlt' := hr.trans_lt hlt
  rw [moved_of_smooth h, Odo.stepMotion, if_neg (not_lt.mpr hn), if_neg (not_le.mpr hlt')]
  dsimp only
  rw [hd, hr]
  exact ⟨rfl, rfl⟩

/-! ### Steps 6 and 7: the mark and the grid (R68 to R77) -/

theorem stepGrid_of_still {run : BitVec 8} {dOld : Nat} (h : ¬(measuring = true ∧ dOld < o.d)) :
    o.stepGrid c measuring run dOld base new = (o, []) := by
  refine if_neg ?_
  rw [Bool.and_eq_true, decide_eq_true_eq]
  exact h

theorem stepGrid_of_advance {run : BitVec 8} {dOld : Nat} (h : measuring = true ∧ dOld < o.d) :
    o.stepGrid c measuring run dOld base new =
      if o.gapCondition (o.crossings c) base new then (o.declareGap c (o.crossings c), [.gap run])
      else (o.passSamples c (o.crossings c),
        (List.range (o.crossings c)).map fun j => .sample (o.sampleAt c run dOld base new j)) := by
  refine if_pos ?_
  rw [Bool.and_eq_true, decide_eq_true_eq]
  exact h

/-- R71: the conditions of a declared gap. -/
theorem gapCondition_iff {k : Nat} : o.gapCondition k base new = true ↔ o.gapPending = true ∨ o.silenceFlag = true ∨ 4 < k ∨
    (o.tachFault = true ∧ (base.overrun = true ∨ new.overrun = true)) := by
  simp [Odo.gapCondition, Config.crossingsMax, or_assoc]

theorem stepGrid_frame (o : Odo) (c : ConfigRecord) (measuring : Bool) (run : BitVec 8) (dOld : Nat) (base new : CalFrame) :
    ∃ n i gap flag, (o.stepGrid c measuring run dOld base new).1 =
      { o with n := n, s := i, gapPending := gap, silenceFlag := flag } := by
  unfold Odo.stepGrid
  split
  · dsimp only
    split <;> exact ⟨_, _, _, _, rfl⟩
  · exact ⟨_, _, _, _, rfl⟩

/-- R74, R77: an advance in MEASURING ends gap-pending, whether it is declared a gap or not. -/
theorem stepGrid_of_advance_odo {run : BitVec 8} {dOld : Nat} (h : measuring = true ∧ dOld < o.d) :
    (o.stepGrid c measuring run dOld base new).1 = { o with
      n := o.n + o.crossings c * gridStep c, s := o.s + BitVec.ofNat 32 (o.crossings c), gapPending := false
      silenceFlag := false } := by
  rw [stepGrid_of_advance h]
  split
  · rfl
  · next hgap =>
    rw [gapCondition_iff, not_or, not_or] at hgap
    obtain ⟨hpending, hflag, _⟩ := hgap
    have hpending' : o.gapPending = false := by simpa using hpending
    have hflag' : o.silenceFlag = false := by simpa using hflag
    obtain ⟨⟩ := o
    obtain rfl := hpending'
    obtain rfl := hflag'
    rfl

theorem mark_not_mem_stepGrid (o : Odo) (c : ConfigRecord) (measuring : Bool) (run : BitVec 8) (dOld : Nat)
    (base new : CalFrame) (q : Nat) (x : Int) : OdoItem.mark q x ∉ (o.stepGrid c measuring run dOld base new).2 := by
  unfold Odo.stepGrid
  split
  · dsimp only
    split
    · simp
    · simp
  · simp

/-! ### The frame event (R57) -/

theorem takeFrame_of_base (h : o.base = some base) (run : BitVec 8) : o.takeFrame c measuring run new =
    (((o.moved c measuring base new).stepGrid c measuring run o.d base new).1.rebase c measuring base new,
      (o.moved c measuring base new).handMark new ++
        ((o.moved c measuring base new).stepGrid c measuring run o.d base new).2) := by
  obtain ⟨⟩ := o
  obtain rfl := h
  rfl

end

/-- R66: a new reverse-limit request replaces one that waits. -/
theorem requestAfter_of_base {o : Odo} {base : CalFrame} (h : o.base = some base) (c : ConfigRecord) (measuring : Bool)
    (run : BitVec 8) (new : CalFrame) (waiting : Option (BitVec 8)) : o.requestAfter c measuring run new waiting =
      if measuring = true ∧ ¬100000000 < frameDistance c base new ∧ tachDifference base new < 0 ∧
          200000000 ≤ o.r + frameDistance c base new then some run else waiting := by
  unfold Odo.requestAfter
  rw [h]
  have hreach : o.reachesReverseLimit c measuring base new = true ↔ measuring = true ∧
      ¬100000000 < frameDistance c base new ∧ tachDifference base new < 0 ∧
        200000000 ≤ o.r + frameDistance c base new := by
    simp [Odo.reachesReverseLimit, isJump_eq, Config.rollbackLimitUm, and_assoc]
  exact if_congr hreach rfl rfl

/-- R57: ODO and its hand-over after a frame event against a base frame. -/
theorem frameEvent_of_base {s : State} {base new : CalFrame} (hl : s.links.odoToLoc = []) (hc : s.cal.held = some new)
    (hb : s.odo.base = some base) : s.frameEvent = { s with
      cal := { s.cal with held := none }
      odo := ((s.odo.moved s.cmu.config s.measuring base new).stepGrid s.cmu.config s.measuring s.cmu.runNumber s.odo.d base
        new).1.rebase s.cmu.config s.measuring base new
      links := { s.links with
        odoToLoc := (s.odo.moved s.cmu.config s.measuring base new).handMark new ++
          ((s.odo.moved s.cmu.config s.measuring base new).stepGrid s.cmu.config s.measuring s.cmu.runNumber s.odo.d base
            new).2
        reverseRequest := if s.measuring = true ∧ ¬100000000 < frameDistance s.cmu.config base new ∧
            tachDifference base new < 0 ∧ 200000000 ≤ s.odo.r + frameDistance s.cmu.config base new
          then some s.cmu.runNumber else s.links.reverseRequest } } := by
  rw [frameEvent_of_record ((recordToTake_of_links_empty hl).trans hc), takeFrame_of_base hb, requestAfter_of_base hb]

theorem measuring_eq (s : State) : s.measuring = decide (s.cmu.runState = .measuring) := by
  unfold State.measuring
  cases s.cmu.runState <;> rfl

/-- R57: ODO once a frame event is over. -/
def Odo.after (o : Odo) (c : ConfigRecord) (measuring : Bool) (run : BitVec 8) (base new : CalFrame) : Odo :=
  ((o.moved c measuring base new).stepGrid c measuring run o.d base new).1.rebase c measuring base new

section

variable {o : Odo} {c : ConfigRecord} {measuring : Bool} {run : BitVec 8} {base new : CalFrame}

/-- The grid changes neither the motion nor the speed. -/
theorem after_motion : (o.after c measuring run base new).d = (o.moved c measuring base new).d ∧
    (o.after c measuring run base new).r = (o.moved c measuring base new).r ∧
    (o.after c measuring run base new).vf = (o.moved c measuring base new).vf ∧
    (o.after c measuring run base new).lowSpeed = (o.moved c measuring base new).lowSpeed ∧
    (o.after c measuring run base new).silenceTimer = (o.moved c measuring base new).silenceTimer := by
  obtain ⟨n, i, gap, flag, hgrid⟩ := stepGrid_frame (o.moved c measuring base new) c measuring run o.d base new
  rw [Odo.after, hgrid]
  exact ⟨rfl, rfl, rfl, rfl, rfl⟩

theorem moved_silenceTimer : (o.moved c measuring base new).silenceTimer = some c.silenceMs := by
  by_cases h : 100000000 < frameDistance c base new
  · rw [moved_of_jump h]
  · obtain ⟨_, _, _, _, hmoved⟩ := moved_of_smooth_frame (o := o) (measuring := measuring) h
    rw [hmoved]

/-- R69: without an advance in MEASURING the grid stays where it was. -/
theorem after_of_still (h : ¬(measuring = true ∧ o.d < (o.moved c measuring base new).d)) :
    o.after c measuring run base new = (o.moved c measuring base new).rebase c measuring base new := by
  rw [Odo.after, stepGrid_of_still h]

/-- A frame that jumps advances nothing. -/
theorem after_of_jump (h : 100000000 < frameDistance c base new) : o.after c measuring run base new =
    (o.moved c measuring base new).rebase c measuring base new := by
  refine after_of_still fun ⟨_, hd⟩ => ?_
  rw [moved_of_jump h] at hd
  exact lt_irrefl _ hd

/-- R74: gap-pending waits for the first advance in MEASURING. -/
theorem after_gapPending_of_still (hsmooth : ¬100000000 < frameDistance c base new)
    (h : ¬(measuring = true ∧ o.d < (o.after c measuring run base new).d)) :
    (o.after c measuring run base new).gapPending = o.gapPending := by
  rw [after_motion.1] at h
  obtain ⟨_, _, _, _, hmoved⟩ := moved_of_smooth_frame (o := o) (measuring := measuring) hsmooth
  rw [after_of_still h, Odo.rebase, hmoved]

theorem after_of_advance (h : measuring = true ∧ o.d < (o.after c measuring run base new).d) :
    (o.after c measuring run base new).gapPending = false ∧ (o.after c measuring run base new).silenceFlag = false := by
  rw [after_motion.1] at h
  rw [Odo.after, stepGrid_of_advance_odo h]
  exact ⟨rfl, rfl⟩

theorem handMark_congr {o' : Odo} (h : o.d = o'.d) : o.handMark new = o'.handMark new := by
  unfold Odo.handMark Odo.measured
  rw [h]

/-- R75: the channels read the odometer as the frame has moved it. -/
theorem sampleAt_of_step (j : Nat) : (o.moved c measuring base new).sampleAt c run o.d base new j =
    { run := run
      index := (o.moved c measuring base new).s + BitVec.ofNat 32 j
      point := (o.moved c measuring base new).n + j * (1000 * c.spacingMm)
      lowSpeed := (o.moved c measuring base new).lowSpeed
      seqGap := decide (new.sequence ≠ base.sequence + 1) || base.overrun || new.overrun
      speed := (o.moved c measuring base new).vf
      channels := Vector.ofFn fun i : Fin 12 => interpolate (base.channels[i]) (new.channels[i])
        ((o.moved c measuring base new).n + j * (1000 * c.spacingMm)) o.d (o.moved c measuring base new).d } := by
  have hgap : seqGapFlag base new = (decide (new.sequence ≠ base.sequence + 1) || base.overrun || new.overrun) := by
    unfold seqGapFlag
    rw [decide_not]
    rfl
  unfold Odo.sampleAt
  rw [hgap]
  rfl

/-- The sample grid stands as it was when the frame has moved ODO. -/
theorem moved_grid : (o.moved c measuring base new).n = o.n ∧ (o.moved c measuring base new).s = o.s ∧
    (o.moved c measuring base new).silenceFlag = o.silenceFlag := by
  by_cases h : 100000000 < frameDistance c base new
  · rw [moved_of_jump h]
    exact ⟨rfl, rfl, rfl⟩
  · obtain ⟨_, _, _, _, hmoved⟩ := moved_of_smooth_frame (o := o) (measuring := measuring) h
    rw [hmoved]
    exact ⟨rfl, rfl, rfl⟩

/-- A frame that advances the odometer is no jump. -/
theorem moved_of_advancing (h : o.d < (o.moved c measuring base new).d) :
    (o.moved c measuring base new).gapPending = o.gapPending ∧ (o.moved c measuring base new).tachFault = o.tachFault := by
  by_cases hjump : 100000000 < frameDistance c base new
  · rw [moved_of_jump hjump] at h
    exact absurd h (lt_irrefl _)
  · obtain ⟨_, _, _, _, hmoved⟩ := moved_of_smooth_frame (o := o) (measuring := measuring) hjump
    rw [hmoved]
    exact ⟨rfl, rfl⟩

end

/-- R57: the machine after a frame event against a base frame. -/
theorem exec_frameEvent_of_base {s : State} {base new : CalFrame} (hl : s.links.odoToLoc = []) (hc : s.cal.held = some new)
    (hb : s.odo.base = some base) : exec .frameEvent s = .next { s with
      cal := { s.cal with held := none }
      odo := s.odo.after s.cmu.config (decide (s.cmu.runState = .measuring)) s.cmu.runNumber base new
      links := { s.links with
        odoToLoc := (s.odo.moved s.cmu.config (decide (s.cmu.runState = .measuring)) base new).handMark new ++
          ((s.odo.moved s.cmu.config (decide (s.cmu.runState = .measuring)) base new).stepGrid s.cmu.config
            (decide (s.cmu.runState = .measuring)) s.cmu.runNumber s.odo.d base new).2
        reverseRequest := if decide (s.cmu.runState = .measuring) = true ∧ ¬100000000 < frameDistance s.cmu.config base new ∧
            tachDifference base new < 0 ∧ 200000000 ≤ s.odo.r + frameDistance s.cmu.config base new
          then some s.cmu.runNumber else s.links.reverseRequest } } := by
  rw [← measuring_eq]
  exact congrArg Host.Outcome.next (frameEvent_of_base hl hc hb)

end Sys2Proof.Machine

/-! The statement about the frame event's speed and motion. -/

namespace Sys2Proof.Proofs

open Sys2Proof Sys2Proof.Machine

/-- Settles O30: ODO as the frame has moved it, of which the grid changes neither motion nor speed. -/
theorem frameEventFollowsSpeedAndMotion : Obligations.FrameEventFollowsSpeedAndMotion := by
  unfold Obligations.FrameEventFollowsSpeedAndMotion
  intro s base new hl hheld hbase c dn d dt jump measuring speed
  obtain ⟨hd, hr, hvf, hlow, htimer⟩ :=
    after_motion (o := s.odo) (c := c) (measuring := measuring) (run := s.cmu.runNumber) (base := base) (new := new)
  refine ⟨_, exec_frameEvent_of_base hl hheld hbase, rfl, rfl, htimer.trans moved_silenceTimer, rfl, fun hjump => ?_,
    fun hsmooth ht => ?_, fun hsmooth ht => ?_, fun hsmooth hneg => ?_, fun hsmooth hpos hle => ?_,
    fun hsmooth hpos hlt => ?_, after_gapPending_of_still, fun hm hlt => (after_of_advance ⟨hm, hlt⟩).1,
    ⟨((s.odo.moved c measuring base new).stepGrid c measuring s.cmu.runNumber s.odo.d base new).2,
      mark_not_mem_stepGrid _ _ _ _ _ _ _, congrArg (· ++ _) (handMark_congr hd.symm)⟩, rfl⟩
  case refine_1 =>
    dsimp only
    rw [after_of_jump hjump, moved_of_jump hjump]
    exact ⟨rfl, rfl, rfl, rfl, rfl⟩
  case refine_2 =>
    obtain ⟨hspeed, hstate⟩ := moved_speed_of_no_time (o := s.odo) (measuring := measuring) hsmooth ht
    exact ⟨hvf.trans hspeed, hlow.trans hstate⟩
  case refine_3 =>
    obtain ⟨hspeed, hstate⟩ := moved_speed_of_time (o := s.odo) (measuring := measuring) hsmooth ht
    refine ⟨?_, (hlow.trans hstate).trans (congrArg (lowSpeedAfter _ _) hvf.symm)⟩
    rw [instantSpeed_eq] at hspeed
    exact (congrArg Nat.cast (hvf.trans hspeed)).trans (filteredSpeed_eq _ _ _)
  case refine_4 =>
    obtain ⟨hmotion, hback⟩ := moved_of_reverse (o := s.odo) (measuring := measuring) hsmooth hneg
    exact ⟨hd.trans hmotion, hr.trans hback⟩
  case refine_5 =>
    obtain ⟨hmotion, hback⟩ := moved_of_rollback (o := s.odo) (measuring := measuring) hsmooth hpos hle
    exact ⟨hd.trans hmotion, hr.trans hback⟩
  case refine_6 =>
    obtain ⟨hmotion, hback⟩ := moved_of_advance (o := s.odo) (measuring := measuring) hsmooth hpos hlt
    exact ⟨hd.trans hmotion, hr.trans hback⟩

end Sys2Proof.Proofs


/-! SUPPORT. Interpolation between two frames (R75). -/

namespace Sys2Proof.Machine

section

variable {a b : Quantity} {point dOld d : Nat}

theorem interpolate_of_valid (h : (a.valid && b.valid) = true) : interpolate a b point dOld d =
    { value := a.value + nearest ((b.value - a.value) * ((point : Int) - (dOld : Int))) ((d : Int) - (dOld : Int)),
      valid := true, saturated := a.saturated || b.saturated } := if_pos h

theorem interpolate_of_invalid (h : (a.valid && b.valid) = false) : interpolate a b point dOld d =
    { value := 0, valid := false, saturated := a.saturated || b.saturated } := if_neg (ne_true_of_eq_false h)

end

theorem nearest_share_of_nonneg {x p q : Int} (hx : 0 ≤ x) (hp : 0 < p) (hpq : p ≤ q) :
    0 ≤ nearest (x * p) q ∧ nearest (x * p) q ≤ x := by
  have hxp : 0 ≤ x * p := mul_nonneg hx hp.le
  have hle : x * p ≤ x * q := mul_le_mul_of_nonneg_left hpq hx
  rw [nearest, if_pos hxp]
  refine ⟨Int.ediv_nonneg (by omega) (by omega), Int.lt_add_one_iff.mp (Int.ediv_lt_of_lt_mul (by omega) ?_)⟩
  calc 2 * (x * p) + q ≤ 2 * (x * q) + q := by omega
    _ < (x + 1) * (2 * q) := by linarith

/-- A share of a difference, rounded to the nearest, lies between 0 and the whole of it. -/
theorem nearest_share_between {x p q : Int} (hp : 0 < p) (hpq : p ≤ q) :
    min 0 x ≤ nearest (x * p) q ∧ nearest (x * p) q ≤ max 0 x := by
  rcases le_or_gt 0 x with hx | hx
  · obtain ⟨hlow, hhigh⟩ := nearest_share_of_nonneg hx hp hpq
    omega
  · obtain ⟨hlow, hhigh⟩ := nearest_share_of_nonneg (x := -x) (by omega) hp hpq
    rw [nearest_neg (mul_neg_of_neg_of_pos hx hp), ← neg_mul]
    omega

theorem nearest_mul_self {x q : Int} (hq : 0 < q) : nearest (x * q) q = x := by
  obtain ⟨hclose, -⟩ := nearest_spec (x * q) hq
  have hshare : x * q - q * nearest (x * q) q = q * (x - nearest (x * q) q) := by ring
  rw [hshare, abs_mul, abs_of_pos hq] at hclose
  by_contra hne
  have hone : 1 ≤ |x - nearest (x * q) q| := Int.one_le_abs (sub_ne_zero.mpr (Ne.symm hne))
  have hmul : q * 1 ≤ q * |x - nearest (x * q) q| := mul_le_mul_of_nonneg_left hone hq.le
  omega

/-- R75: a valid interpolated value lies between the two it is taken from, and is the new one at the frame's own place. -/
theorem interpolate_value {a b : Quantity} {point dOld d : Nat} (h : (a.valid && b.valid) = true) (hlt : dOld < point)
    (hle : point ≤ d) : min a.value b.value ≤ (interpolate a b point dOld d).value ∧
      (interpolate a b point dOld d).value ≤ max a.value b.value ∧
      (point = d → (interpolate a b point dOld d).value = b.value) := by
  have hbetween := nearest_share_between (x := b.value - a.value) (p := (point : Int) - dOld) (q := (d : Int) - dOld)
    (by omega) (by omega)
  rw [interpolate_of_valid h]
  refine ⟨by dsimp only; omega, by dsimp only; omega, fun hpoint => ?_⟩
  subst hpoint
  dsimp only
  rw [nearest_mul_self (by omega)]
  omega

/-! ### Step 7 of a frame event (R69 to R77) -/

section

variable {o : Odo} {c : ConfigRecord} {run : BitVec 8} {base new : CalFrame}

theorem crossings_of_moved (measuring : Bool) : (o.moved c measuring base new).crossings c =
    if (o.moved c measuring base new).d < o.n then 0
    else ((o.moved c measuring base new).d - o.n) / (1000 * c.spacingMm) + 1 := by
  rw [Odo.crossings, moved_grid.1]
  rfl

/-- R71: an advance judges the frames by the flags that stood before the frame. -/
theorem gapCondition_of_advancing {measuring : Bool} {k : Nat} (h : o.d < (o.moved c measuring base new).d) :
    (o.moved c measuring base new).gapCondition k base new = true ↔ o.gapPending = true ∨ o.silenceFlag = true ∨ 4 < k ∨
      (o.tachFault = true ∧ (base.overrun = true ∨ new.overrun = true)) := by
  obtain ⟨hpending, hfault⟩ := moved_of_advancing h
  rw [gapCondition_iff, hpending, hfault, moved_grid.2.2]

theorem stepGrid_of_gap {measuring : Bool} {dOld : Nat} (h : measuring = true ∧ dOld < o.d)
    (hgap : o.gapCondition (o.crossings c) base new = true) :
    (o.stepGrid c measuring run dOld base new).2 = [.gap run] := by
  rw [stepGrid_of_advance h, if_pos hgap]

theorem stepGrid_of_samples {measuring : Bool} {dOld : Nat} (h : measuring = true ∧ dOld < o.d)
    (hgap : ¬o.gapCondition (o.crossings c) base new = true) : (o.stepGrid c measuring run dOld base new).2 =
      (List.range (o.crossings c)).map fun j => .sample (o.sampleAt c run dOld base new j) := by
  rw [stepGrid_of_advance h, if_neg hgap]

/-- R70, R74, R77: an advance in MEASURING moves the grid past the points reached and ends gap-pending. -/
theorem after_of_advancing {measuring : Bool} (h : measuring = true ∧ o.d < (o.moved c measuring base new).d) :
    (o.after c measuring run base new).n =
        o.n + (o.moved c measuring base new).crossings c * (1000 * c.spacingMm) ∧
      (o.after c measuring run base new).s = o.s + BitVec.ofNat 32 ((o.moved c measuring base new).crossings c) ∧
      (o.after c measuring run base new).gapPending = false ∧ (o.after c measuring run base new).silenceFlag = false := by
  rw [Odo.after, stepGrid_of_advance_odo h]
  refine ⟨?_, ?_, rfl, rfl⟩
  · exact congrArg (· + _) moved_grid.1
  · exact congrArg (· + _) moved_grid.2.1

end

end Sys2Proof.Machine

/-! The statement about the grid points. -/

namespace Sys2Proof.Proofs

open Sys2Proof Sys2Proof.Machine

/-- Settles O31: the grid is followed from ODO as the frame has moved it, whose grid is still the old one. -/
theorem gridPointsBecomeSamplesOrAGap : Obligations.GridPointsBecomeSamplesOrAGap := by
  unfold Obligations.GridPointsBecomeSamplesOrAGap
  refine ⟨fun s t base new hl hheld hbase hstep => ?_, fun a b point dOld d hlt hle => ?_⟩
  · rw [exec_frameEvent_of_base hl hheld hbase] at hstep
    obtain rfl := Host.Outcome.next.inj hstep
    intro grid k mark gap
    obtain ⟨hd, _, hvf, hlow, _⟩ := after_motion (o := s.odo) (c := s.cmu.config)
      (measuring := decide (s.cmu.runState = .measuring)) (run := s.cmu.runNumber) (base := base) (new := new)
    have hmark := handMark_congr (new := new) hd
    refine ⟨fun hstill => ?_, fun hrun hadvance => ?_⟩
    · have hstill' : ¬(decide (s.cmu.runState = .measuring) = true ∧
          s.odo.d < (s.odo.moved s.cmu.config (decide (s.cmu.runState = .measuring)) base new).d) := by
        rw [decide_eq_true_eq, ← hd]
        exact hstill
      obtain ⟨hn, hindex, hsilence⟩ := moved_grid (o := s.odo) (c := s.cmu.config)
        (measuring := decide (s.cmu.runState = .measuring)) (base := base) (new := new)
      refine ⟨?_, ?_, ?_, ?_, fun hfault => ?_⟩
      · rw [stepGrid_of_still hstill', List.append_nil]
        exact hmark.symm
      · rw [after_of_still hstill']
        exact hn
      · rw [after_of_still hstill']
        exact hindex
      · rw [after_of_still hstill']
        exact congrArg (· && decide (s.cmu.runState = .measuring)) hsilence
      · refine after_gapPending_of_still (of_decide_eq_false hfault) ?_
        rw [decide_eq_true_eq]
        exact hstill
    · have hm := decide_eq_true hrun
      have hmoved := hadvance.trans_eq hd
      have hcrossings := crossings_of_moved (o := s.odo) (c := s.cmu.config) (base := base) (new := new)
        (decide (s.cmu.runState = .measuring))
      have hk : (s.odo.moved s.cmu.config (decide (s.cmu.runState = .measuring)) base new).crossings s.cmu.config = k := by
        rw [hcrossings, ← hd]
      have hgap := gapCondition_of_advancing (c := s.cmu.config) (k := k) hmoved
      obtain ⟨hn, hindex, hpending, hsilence⟩ := after_of_advancing (run := s.cmu.runNumber) (base := base) (new := new)
        (o := s.odo) (c := s.cmu.config) ⟨hm, hmoved⟩
      rw [hk] at hn hindex
      refine ⟨hn, hindex, hpending, hsilence, fun h => ?_, fun h => ?_⟩
      · rw [stepGrid_of_gap ⟨hm, hmoved⟩ (by rw [hk]; exact hgap.mpr h)]
        exact congrArg (· ++ _) hmark.symm
      · rw [stepGrid_of_samples ⟨hm, hmoved⟩ (by rw [hk]; exact fun hno => h (hgap.mp hno)), hk]
        refine congrArg₂ (· ++ ·) hmark.symm (List.map_congr_left fun j _ => congrArg OdoItem.sample ?_)
        rw [sampleAt_of_step, moved_grid.1, moved_grid.2.1, ← hd, ← hvf, ← hlow]
  · intro q
    cases hvalid : a.valid && b.valid with
    | false =>
      have hq : q = _ := interpolate_of_invalid hvalid
      rw [hq]
      exact ⟨rfl, rfl, nofun, nofun, fun _ => rfl⟩
    | true =>
      have hq : q = _ := interpolate_of_valid hvalid
      have hvalue := interpolate_value hvalid hlt hle
      rw [interpolate_of_valid hvalid] at hvalue
      rw [hq]
      exact ⟨rfl, rfl, fun _ => rfl, fun _ => hvalue, nofun⟩

end Sys2Proof.Proofs


/-! SUPPORT. The ZERO operation: the set of completed channels, the end of a ZERO, its deferred response, and what START does to
it (R49 to R54); the frame take of a ZERO that collects (R44, R50, R51). -/

namespace Sys2Proof.Machine

/-! ### Sets of channels and of measures as masks -/

theorem getLsbD_foldl_twoPow {w n : Nat} (f : Fin n → Bool) (i : Nat) (is : List (Fin n)) (m : BitVec w) :
    (is.foldl (fun m i => if f i then m ||| BitVec.twoPow w i.val else m) m).getLsbD i =
      (m.getLsbD i || (decide (i < w) && is.any fun j => f j && decide (j.val = i))) := by
  induction is generalizing m with
  | nil => simp
  | cons j js ih =>
    rw [List.foldl_cons, ih, List.any_cons]
    cases f j with
    | false => simp
    | true =>
      have hbound : (decide (j.val < w) && decide (j.val = i)) = (decide (i < w) && decide (j.val = i)) := by
        by_cases h : j.val = i <;> simp [h]
      simp [BitVec.getLsbD_twoPow, Bool.and_or_distrib_left, Bool.or_assoc, hbound]

theorem any_finRange_eq {n : Nat} (f : Fin n → Bool) (i : Fin n) :
    (List.finRange n).any (fun j => f j && decide (j.val = i.val)) = f i := by
  rw [Bool.eq_iff_iff, List.any_eq_true]
  constructor
  · rintro ⟨j, -, hj⟩
    rw [Bool.and_eq_true, decide_eq_true_eq] at hj
    obtain ⟨hf, hval⟩ := hj
    rwa [← Fin.ext hval]
  · exact fun h => ⟨i, List.mem_finRange i, by simp [h]⟩

theorem getLsbD_channelMask (f : Fin 12 → Bool) (i : Fin 12) : (channelMask f).getLsbD i.val = f i := by
  rw [channelMask, getLsbD_foldl_twoPow, any_finRange_eq]
  simp [i.isLt]

theorem getLsbD_measureMask (f : Fin 16 → Bool) (m : Fin 16) : (measureMask f).getLsbD m.val = f m := by
  rw [measureMask, getLsbD_foldl_twoPow, any_finRange_eq]
  simp [m.isLt]

/-! ### The end of a ZERO (R51 to R54) -/

theorem offsetsOf_eq (t : Vector ChannelEntry 12) : offsetsOf t = t.map ChannelEntry.offset := by
  ext i hi
  simp [offsetsOf]

theorem zeroReport_response (r : ZeroReport) :
    r.response = zeroAnswer r.source r.tag r.status (r.mask.setWidth 16) r.completed r.counts r.offsets := rfl

theorem responseRoom_iff (l : Ltx) : l.responseRoom = true ↔ l.responses.length < 4 := by
  simp [Ltx.responseRoom, Config.responseCapacity]

section

variable {s : State} {z : ZeroCollection} {r : ZeroReport}

/-- R54: a waiting ZERO response takes a free place. -/
theorem placeZero_of_room (hz : s.cal.zero = .reporting r) (h : s.ltx.responses.length < 4) :
    s.placeZero = { s with cal := { s.cal with zero := .idle }, ltx := s.ltx.placeResponse r.response } := by
  have hplace : s.placeZero = if s.ltx.responseRoom then
      (s.withLtx (s.ltx.placeResponse r.response)).withCal { s.cal with zero := .idle } else s := by
    rw [State.placeZero, hz]
  rw [hplace, if_pos ((responseRoom_iff _).mpr h)]
  rfl

/-- R54: a waiting ZERO response waits for a free place. -/
theorem placeZero_of_full (hz : s.cal.zero = .reporting r) (h : 4 ≤ s.ltx.responses.length) : s.placeZero = s := by
  have hplace : s.placeZero = if s.ltx.responseRoom then
      (s.withLtx (s.ltx.placeResponse r.response)).withCal { s.cal with zero := .idle } else s := by
    rw [State.placeZero, hz]
  rw [hplace, if_neg fun hroom => by have := (responseRoom_iff _).mp hroom; omega]

theorem completed_eq (z : ZeroCollection) (i : Fin 12) :
    z.completed i = (z.mask.getLsbD i.val && decide (64 ≤ z.counts[i])) := rfl

/-- R51, R52: the offset of a channel once a ZERO has ended. -/
theorem endZero_channel (c : Cal) (z : ZeroCollection) (status : Status) (i : Fin 12) :
    (c.endZero z status).channels[i] = { (c.channels[i]) with
      offset := if z.completed i then nearest (z.sums[i]) 64 else (c.channels[i]).offset } := by
  have hentry : (c.endZero z status).channels[i] =
      if z.completed i then { (c.channels[i]) with offset := nearest (z.sums[i]) 64 } else c.channels[i] :=
    getElem_ofFn_fin _ i
  rw [hentry]
  split <;> rfl

/-- R51, R52: a ZERO ends with its offsets applied and its response placed, or waiting. -/
def State.endZero (s : State) (z : ZeroCollection) (status : Status) : State :=
  (s.withCal (s.cal.endZero z status)).placeZero

theorem endZero_channels (s : State) (z : ZeroCollection) (status : Status) :
    (s.endZero z status).cal.channels = (s.cal.endZero z status).channels := by
  unfold State.endZero State.placeZero
  split
  · split <;> rfl
  · rfl

theorem endZero_frame (s : State) (z : ZeroCollection) (status : Status) : s.endZero z status = { s with
    cal := { s.cal with channels := (s.endZero z status).cal.channels, zero := (s.endZero z status).cal.zero }
    ltx := (s.endZero z status).ltx } := by
  obtain ⟨_, _, h⟩ := placeZero_frame (s.withCal (s.cal.endZero z status))
  rw [State.endZero, h]
  rfl

theorem endZero_of_room {status : Status} (h : s.ltx.responses.length < 4) : (s.endZero z status).cal.zero = .idle ∧
    (s.endZero z status).ltx = s.ltx.placeResponse (zeroAnswer z.source z.tag status (z.mask.setWidth 16)
      (channelMask z.completed) z.counts ((s.endZero z status).cal.channels.map ChannelEntry.offset)) := by
  rw [endZero_channels, ← offsetsOf_eq, State.endZero,
    placeZero_of_room (s := s.withCal (s.cal.endZero z status)) rfl h]
  exact ⟨rfl, rfl⟩

theorem endZero_of_full {status : Status} (h : 4 ≤ s.ltx.responses.length) : (s.endZero z status).ltx = s.ltx ∧
    (s.endZero z status).cal.zero = .reporting
      { mask := z.mask, tag := z.tag, source := z.source, status := status, completed := channelMask z.completed
        counts := z.counts, offsets := (s.endZero z status).cal.channels.map ChannelEntry.offset } := by
  rw [endZero_channels, ← offsetsOf_eq, State.endZero,
    placeZero_of_full (s := s.withCal (s.cal.endZero z status)) rfl h]
  exact ⟨rfl, rfl⟩

/-! ### What ends a ZERO: a frame take, the timeout, its place, START -/

theorem expireZero_of_collecting (hz : s.cal.zero = .collecting z) : s.expireZero = s.endZero z .timeout := by
  unfold State.expireZero
  rw [hz]
  rfl

theorem completeZero_of_complete (hz : s.cal.zero = .collecting z) (h : z.complete = true) :
    s.completeZero = s.endZero z .ok := by
  have hcomplete : s.completeZero = if z.complete then (s.withCal (s.cal.endZero z .ok)).placeZero else s := by
    rw [State.completeZero, hz]
  rw [hcomplete, if_pos h]
  rfl

theorem completeZero_of_incomplete (hz : s.cal.zero = .collecting z) (h : ¬z.complete = true) : s.completeZero = s := by
  have hcomplete : s.completeZero = if z.complete then (s.withCal (s.cal.endZero z .ok)).placeZero else s := by
    rw [State.completeZero, hz]
  rw [hcomplete, if_neg h]

theorem complete_iff (z : ZeroCollection) :
    z.complete = true ↔ ∀ i : Fin 12, z.mask.getLsbD i.val = true → 64 ≤ z.counts[i] := by
  rw [ZeroCollection.complete, List.all_eq_true]
  refine ⟨fun h i hi => ?_, fun h i _ => ?_⟩
  · have hall := h i (List.mem_finRange i)
    rw [completed_eq, hi] at hall
    simpa using hall
  · cases hi : z.mask.getLsbD i.val with
    | false => rfl
    | true =>
      rw [completed_eq, hi, Bool.true_and, decide_eq_true (h i hi)]
      rfl

/-- R44: the head entry taken from the intake queue, before what a complete ZERO brings. -/
def State.frameTaken (s : State) (e : SensorEntry) (rest : List SensorEntry) : State :=
  (s.withLrx { s.lrx with intake := rest }).withCal (s.cal.take e)

theorem takeFrame_of_entry {e : SensorEntry} {rest : List SensorEntry} (hq : s.lrx.intake = e :: rest)
    (hc : s.cal.held = none) : s.takeFrame = (s.frameTaken e rest).completeZero := by
  have hentry : s.frameToTake = some e := by
    rw [State.frameToTake, hq]
    exact if_pos hc
  rw [State.takeFrame, hentry]
  dsimp only
  rw [hq]
  rfl

theorem take_zero_of_collecting {c : Cal} (hz : c.zero = .collecting z) (e : SensorEntry) :
    (c.take e).zero = .collecting (z.add e) := by
  unfold Cal.take
  rw [hz]

theorem takes_iff (z : ZeroCollection) (e : SensorEntry) (i : Fin 12) : z.takes e i = true ↔
    z.mask.getLsbD i.val = true ∧ z.counts[i] < 64 ∧ e.sensorValid.getLsbD i.val = true := by
  rw [ZeroCollection.takes, Bool.and_eq_true, Bool.and_eq_true, decide_eq_true_eq, and_assoc]

/-- R50: the counts and sums once a frame's readings are added. -/
theorem add_counted (z : ZeroCollection) (e : SensorEntry) (i : Fin 12) :
    (z.mask.getLsbD i.val = true ∧ z.counts[i] < 64 ∧ e.sensorValid.getLsbD i.val = true →
        (z.add e).counts[i] = z.counts[i] + 1 ∧ (z.add e).sums[i] = z.sums[i] + e.raw[i]) ∧
      (¬(z.mask.getLsbD i.val = true ∧ z.counts[i] < 64 ∧ e.sensorValid.getLsbD i.val = true) →
        (z.add e).counts[i] = z.counts[i] ∧ (z.add e).sums[i] = z.sums[i]) := by
  have hcounts : (z.add e).counts[i] = if z.takes e i then z.counts[i] + 1 else z.counts[i] := getElem_ofFn_fin _ i
  have hsums : (z.add e).sums[i] = if z.takes e i then z.sums[i] + e.raw[i] else z.sums[i] := getElem_ofFn_fin _ i
  rw [← takes_iff, hcounts, hsums]
  exact ⟨fun h => ⟨if_pos h, if_pos h⟩, fun h => ⟨if_neg h, if_neg h⟩⟩

/-- R44: a frame take while a ZERO is not collecting leaves its record alone. -/
theorem takeFrame_of_idle {c : Cal} {e : SensorEntry} {rest : List SensorEntry} (hq : s.lrx.intake = e :: rest)
    (hheld : c.held = none) (hc : ∀ z, c.zero ≠ .collecting z) : (s.withCal c).takeFrame = (s.withCal c).frameTaken e rest := by
  rw [takeFrame_of_entry (s := s.withCal c) hq hheld]
  refine not_collecting_completeZero fun z => ?_
  rw [show ((s.withCal c).frameTaken e rest).cal.zero = (c.take e).zero from rfl, cal_take_of_not_collecting hc]
  exact hc z

/-! ### START and a ZERO (R53) -/

theorem loseLocationIfRolledBack_withCal (s : State) (c : Cal) :
    (s.withCal c).loseLocationIfRolledBack = s.loseLocationIfRolledBack.withCal c := by
  have hr : (s.withCal c).odo.r = s.odo.r := rfl
  unfold State.loseLocationIfRolledBack
  rw [hr]
  split <;> rfl

/-- R28: what START does at the other blocks does not look at the ZERO record. -/
theorem startRun_withCal (s : State) (c : Cal) : (s.withCal c).startRun = s.startRun.withCal c := by
  have hswap : (s.withCal c).withCmu (s.withCal c).cmu.enterMeasuring = (s.withCmu s.cmu.enterMeasuring).withCal c := rfl
  unfold State.startRun
  rw [hswap]
  unfold State.startOdometry
  dsimp only
  rw [loseLocationIfRolledBack_withCal]
  rfl

theorem startRun_responses (s : State) : s.startRun.ltx.responses = s.ltx.responses := by
  obtain ⟨_, _, _, h⟩ := startRun_frame s
  rw [h]
  rfl

theorem answer_done (s : State) (source : Octet) (broadcast : Bool) (code : Octet) (tag : Half) (args results : List Octet) :
    s.answer (commandEntry source broadcast code tag args) (.done results) =
      s.answeredOk broadcast source code tag results := by
  cases broadcast with
  | false => exact answer_addressed _ _ _ _ _ _
  | true => exact answer_broadcast _ _ _ _ _ _

variable {source : Octet} {broadcast : Bool} {tag : Half} {rest : List CommandEntry}

/-- R28: the machine once START has been carried out and answered, before what it does to a ZERO. -/
def State.started (s : State) (source : Octet) (broadcast : Bool) (tag : Half) (rest : List CommandEntry) : State :=
  (s.taken rest).startRun.answeredOk broadcast source 0x10 tag []

theorem started_responses (s : State) (source : Octet) (broadcast : Bool) (tag : Half) (rest : List CommandEntry) :
    (s.started source broadcast tag rest).ltx.responses = s.ltx.responses ++ if broadcast then []
      else [{ destination := source, code := 0x10, tag := tag, status := .ok, results := [] }] := by
  have hrun : (s.taken rest).startRun.ltx.responses = s.ltx.responses := startRun_responses _
  cases broadcast with
  | false => exact congrArg (· ++ _) hrun
  | true => exact hrun.trans (List.append_nil _).symm

theorem started_withCal (s : State) (c : Cal) (source : Octet) (broadcast : Bool) (tag : Half) (rest : List CommandEntry) :
    (s.withCal c).started source broadcast tag rest = (s.started source broadcast tag rest).withCal c := by
  have hrun : ((s.withCal c).taken rest).startRun = (s.taken rest).startRun.withCal c := startRun_withCal (s.taken rest) c
  unfold State.started
  rw [hrun]
  cases broadcast <;> rfl

theorem started_cal (s : State) (source : Octet) (broadcast : Bool) (tag : Half) (rest : List CommandEntry) :
    (s.started source broadcast tag rest).cal = s.cal := by
  obtain ⟨_, _, _, hrun⟩ := startRun_frame (s.taken rest)
  unfold State.started
  rw [hrun]
  cases broadcast <;> rfl

/-- R28, R53: START once CMU has taken it. -/
theorem State.CanTake.exec_start (h : s.CanTake (commandEntry source broadcast 0x10 tag []) rest)
    (hstop : s.cmu.runState = .stopped) : exec .startCommand s = .next
      (((s.started source broadcast tag rest).withCal s.cal.abortZero).placeAborted s) := by
  refine congrArg Host.Outcome.next (congrArg (State.placeAborted · s) ?_)
  rw [h.run (commandEntry_row rfl fun _ => rfl) rfl rfl (by rw [hstop]; rfl)]
  refine (answer_done ((s.taken rest).startRun.withCal s.cal.abortZero) ..).trans ?_
  cases broadcast <;> rfl

theorem abortZero_of_not_collecting {c : Cal} (h : ∀ z, c.zero ≠ .collecting z) : c.abortZero = c := by
  unfold Cal.abortZero
  split
  · next z hz => exact absurd hz (h z)
  · rfl

/-- R28: START where no ZERO collects. -/
theorem State.CanTake.exec_start_of_idle (h : s.CanTake (commandEntry source broadcast 0x10 tag []) rest)
    (hstop : s.cmu.runState = .stopped) (hz : ∀ z, s.cal.zero ≠ .collecting z) :
    exec .startCommand s = .next (s.started source broadcast tag rest) := by
  have hcal : (s.started source broadcast tag rest).withCal s.cal = s.started source broadcast tag rest := by
    rw [← started_withCal]
    rfl
  rw [h.exec_start hstop, abortZero_of_not_collecting hz, hcal, placeAborted_of_zero]
  rw [started_cal]

theorem abortZero_of_collecting {c : Cal} (hz : c.zero = .collecting z) : c.abortZero =
    { c with
      zero := .reporting
        { mask := z.mask, tag := z.tag, source := z.source, status := .aborted, completed := 0, counts := z.counts
          offsets := c.channels.map ChannelEntry.offset } } := by
  rw [Cal.abortZero, hz, ← offsetsOf_eq]
  rfl

/-- R53: the response of a ZERO that START aborted is placed after START's own. -/
theorem placeAborted_of_collecting {t : State} (hz : s.cal.zero = .collecting z) (h : ∀ z, t.cal.zero ≠ .collecting z) :
    t.placeAborted s = t.placeZero := by
  have hs : s.collecting = true := (collecting_iff s).mpr ⟨z, hz⟩
  have ht : t.collecting = false := by
    rw [Bool.eq_false_iff, Ne, collecting_iff]
    exact fun ⟨z', hz'⟩ => h z' hz'
  rw [State.placeAborted, hs, ht]
  rfl

/-- R53: START where a ZERO collects. -/
theorem State.CanTake.exec_start_of_collecting (h : s.CanTake (commandEntry source broadcast 0x10 tag []) rest)
    (hstop : s.cmu.runState = .stopped) (hz : s.cal.zero = .collecting z) :
    exec .startCommand s = .next ((s.started source broadcast tag rest).withCal s.cal.abortZero).placeZero := by
  rw [h.exec_start hstop, placeAborted_of_collecting hz]
  exact abortZero_not_collecting s.cal

end

end Sys2Proof.Machine

/-! The statement about the end of a ZERO. -/

namespace Sys2Proof.Proofs

open Sys2Proof Sys2Proof.Machine

/-- Settles O28: the frame take, the timeout and START bring the record to its end, and its response goes out or waits. -/
theorem zeroEndsWithItsOffsetsAndItsResponse : Obligations.ZeroEndsWithItsOffsetsAndItsResponse := by
  unfold Obligations.ZeroEndsWithItsOffsetsAndItsResponse
  intro finished
  have hend : ∀ (s u : State) (z : ZeroCollection) (status : Status), u.cal.channels = s.cal.channels → u.ltx = s.ltx →
      finished s (u.endZero z status) z status := fun s u z status hchannels hltx => by
    refine ⟨channelMask z.completed, fun i => (getLsbD_channelMask _ i).trans (completed_eq z i), fun i => ?_,
      fun hroom => ?_, fun hfull => ?_⟩
    · rw [endZero_channels, endZero_channel, getLsbD_channelMask, hchannels]
    · rw [← hltx] at hroom ⊢
      exact endZero_of_room hroom
    · rw [← hltx] at hfull ⊢
      exact endZero_of_full hfull
  refine ⟨fun s z e rest hz hq hheld => ?_, fun s z hz => ?_, fun s hz => ?_, fun s r hz => ⟨fun hroom => ?_, fun hfull => ?_⟩,
    fun s z source broadcast tag rest hz hstop hcan => ?_⟩
  · intro counted
    have hzero : (s.frameTaken e rest).cal.zero = .collecting (z.add e) := take_zero_of_collecting hz e
    have htake : exec .frameTake s = .next (s.frameTaken e rest).completeZero :=
      congrArg Host.Outcome.next (takeFrame_of_entry hq hheld)
    have hidle : exec .frameTake (s.withCal { s.cal with zero := .idle }) =
        .next ((s.withCal { s.cal with zero := .idle }).frameTaken e rest) :=
      congrArg Host.Outcome.next (takeFrame_of_idle hq hheld nofun)
    by_cases hall : (z.add e).complete = true
    · rw [completeZero_of_complete hzero hall] at htake
      refine ⟨z.add e, _, _, htake, hidle, endZero_frame (s.frameTaken e rest) (z.add e) .ok, add_counted z e, rfl,
        fun ⟨i, hi, hlt⟩ => ?_, fun _ => hend s (s.frameTaken e rest) (z.add e) .ok rfl rfl⟩
      exact absurd ((complete_iff _).mp hall i hi) (not_le.mpr hlt)
    · rw [completeZero_of_incomplete hzero hall] at htake
      exact ⟨z.add e, _, _, htake, hidle, rfl, add_counted z e, rfl, fun _ => ⟨hzero, rfl, rfl⟩,
        fun hfull => absurd ((complete_iff _).mpr hfull) hall⟩
  · exact ⟨_, congrArg Host.Outcome.next (expireZero_of_collecting hz), hend s s z .timeout rfl rfl, endZero_frame s z .timeout⟩
  · exact congrArg Host.Outcome.next (expireZero_of_not_collecting hz)
  · exact congrArg Host.Outcome.next (placeZero_of_room hz hroom)
  · exact congrArg Host.Outcome.next (placeZero_of_full hz hfull)
  · intro answered
    have hresponses : (s.started source broadcast tag rest).ltx.responses = answered := started_responses ..
    have hstart := hcan.exec_start_of_collecting hstop hz
    have hidle : exec .startCommand (s.withCal { s.cal with zero := .idle }) =
        .next ((s.started source broadcast tag rest).withCal { s.cal with zero := .idle }) := by
      rw [← started_withCal]
      exact State.CanTake.exec_start_of_idle ⟨hcan.head, hcan.noReset, hcan.room⟩ hstop nofun
    rw [abortZero_of_collecting hz] at hstart
    by_cases hroom : answered.length < 4
    · rw [placeZero_of_room rfl (by rw [← hresponses] at hroom; exact hroom)] at hstart
      exact ⟨_, _, hstart, hidle, rfl, fun _ => ⟨rfl, congrArg (· ++ _) hresponses⟩, fun hfull => absurd hroom (not_lt.mpr hfull)⟩
    · rw [placeZero_of_full rfl (by rw [← hresponses] at hroom; exact not_lt.mp hroom)] at hstart
      exact ⟨_, _, hstart, hidle, rfl, fun h => absurd h hroom, fun _ => ⟨hresponses, rfl⟩⟩

end Sys2Proof.Proofs


/-! SUPPORT. Calibration of a frame (R44 to R47), the channel table and its commands (R42, R43), and the beginning of a ZERO
(R49, R54). -/

namespace Sys2Proof.Machine

/-! ### A frame calibrated (R44 to R47) -/

theorem takeFrame_of_no_entry {s : State} (h : s.lrx.intake = [] ∨ s.cal.held ≠ none) : s.takeFrame = s := by
  have hentry : s.frameToTake = none := by
    unfold State.frameToTake
    rcases h with hempty | hheld
    · rw [hempty]
    · split
      · rfl
      · exact if_neg hheld
  rw [State.takeFrame, hentry]

theorem clamp_ne_iff {x a b : Int} (h : a ≤ b) : clamp x a b ≠ x ↔ x < a ∨ b < x := by
  unfold clamp
  omega

/-- R45, R46: a channel's calibrated value. -/
theorem calibrate_eq (c : ChannelEntry) (sensorValid : Bool) (r : Int) : c.calibrate sensorValid r =
    if c.enabled = true ∧ sensorValid = true then
      { value := max (-32768) (min (nearest ((r - c.offset) * c.gain) 16384) 32767), valid := true
        saturated := decide (nearest ((r - c.offset) * c.gain) 16384 < -32768 ∨ 32767 < nearest ((r - c.offset) * c.gain) 16384) }
    else { value := 0, valid := false, saturated := false } := by
  have hsat : (clamp (c.scaled r) (-32768) 32767 != c.scaled r) =
      decide (c.scaled r < -32768 ∨ 32767 < c.scaled r) := by
    rw [Bool.eq_iff_iff, bne_iff_ne, decide_eq_true_eq]
    exact clamp_ne_iff (by decide)
  unfold ChannelEntry.calibrate
  rw [hsat]
  exact if_congr Bool.and_eq_true_iff rfl rfl

/-- R44, R47: what a frame take leaves of CAL while no ZERO collects. -/
theorem take_of_not_collecting {c : Cal} {e : SensorEntry} {value : Fin 12 → Quantity} (h : ∀ z, c.zero ≠ .collecting z)
    (hvalue : ∀ i : Fin 12, (c.channels[i]).calibrate (e.sensorValid.getLsbD i.val) (e.raw[i]) = value i) : c.take e = { c with
      held := some { tach := e.tach, timestamp := e.timestamp, sequence := e.sequence, markId := e.markId
                     overrun := e.overrun, channels := Vector.ofFn value }
      lastReading := Vector.ofFn fun i : Fin 12 => some { raw := e.raw[i], quantity := value i } } := by
  have hchannels : (c.calibrate e).channels = Vector.ofFn value := congrArg Vector.ofFn (funext hvalue)
  have hreading : (c.take e).lastReading = Vector.ofFn fun i : Fin 12 => some { raw := e.raw[i], quantity := value i } :=
    congrArg Vector.ofFn (funext fun i => congrArg (fun q : Quantity => some ({ raw := e.raw[i], quantity := q } : Reading))
      (by rw [hchannels]; exact getElem_ofFn_fin _ i))
  calc c.take e = { c with
        held := some { c.calibrate e with channels := (c.calibrate e).channels }, lastReading := (c.take e).lastReading
        zero := (c.take e).zero } := rfl
    _ = _ := by
      rw [hreading, hchannels, cal_take_of_not_collecting h e]
      rfl

/-! ### The channel table and its commands (R42, R43) -/

theorem yesNo?_of_lt {x : Nat} (h : x < 2) : yesNo? x = some (decide (x = 1)) := by
  match x, h with
  | 0, _ => rfl
  | 1, _ => rfl

theorem yesNo?_of_le {x : Nat} (h : 2 ≤ x) : yesNo? x = none := by
  match x, h with
  | _ + 2, _ => rfl

section

variable {e : CommandEntry} {s : State}

theorem channelEntry?_of_none {a : List Octet} (h : 2 ≤ field a 1 1 ∨ 2 ≤ field a 6 1) : channelEntry? a = none := by
  unfold channelEntry?
  rcases h with h | h
  · rw [yesNo?_of_le h]
  · rw [yesNo?_of_le h]
    cases yesNo? (field a 1 1) <;> rfl

theorem channelEntry?_of_some {a : List Octet} (henabled : field a 1 1 < 2) (hinertial : field a 6 1 < 2) :
    channelEntry? a = some { enabled := decide (field a 1 1 = 1), gain := signedField a 2 2, offset := signedField a 4 2
                             inertial := decide (field a 6 1 = 1) } := by
  rw [channelEntry?, yesNo?_of_lt henabled, yesNo?_of_lt hinertial]

theorem writeChannel_of_number (h : 12 ≤ field e.args 0 1) : writeChannel e s = (s, .refuse .badArg) :=
  dif_neg (not_lt.mpr h)

theorem writeChannel_of_flag (h : channelEntry? e.args = none) : writeChannel e s = (s, .refuse .badArg) := by
  unfold writeChannel
  rw [h]
  split <;> rfl

theorem writeChannel_of_entry {c : ChannelEntry} {i : Nat} (hc : channelEntry? e.args = some c) (hi : field e.args 0 1 = i)
    (h : i < 12) : writeChannel e s = if s.cal.zeroing ⟨i, h⟩ then (s, .refuse .busy)
      else (s.withCal { s.cal with channels := s.cal.channels.set i c h }, .done []) := by
  subst hi
  refine (dif_pos h).trans ?_
  rw [hc]

/-- R42: a channel that a collecting ZERO names. -/
theorem zeroing_iff {c : Cal} {i : Fin 12} :
    c.zeroing i = true ↔ ∃ z, c.zero = .collecting z ∧ z.mask.getLsbD i.val = true := by
  unfold Cal.zeroing
  split
  · next z hz => simp [hz]
  · next h => exact iff_of_false nofun fun ⟨z, hz, _⟩ => h z hz

theorem readChannel_of_number (h : 12 ≤ field e.args 0 1) : readChannel e s = (s, .refuse .badArg) :=
  dif_neg (not_lt.mpr h)

theorem readChannel_of_channel {i : Nat} (hi : field e.args 0 1 = i) (h : i < 12) :
    readChannel e s = (s, .done (s.cal.channelResults ⟨i, h⟩)) := by
  subst hi
  exact dif_pos h

/-- R42: the arguments of WRITE CHANNEL. -/
def channelArguments (i enabled inertial : Nat) (gain offset : Int) : List Octet :=
  octetsOf 1 i ++ (octetsOf 1 enabled ++ (octetsOf 2 gain ++ (octetsOf 2 offset ++ octetsOf 1 inertial)))

theorem field_channelArguments {i enabled inertial : Nat} {gain offset : Int} (hi : i < 256) (he : enabled < 256)
    (hn : inertial < 256) : field (channelArguments i enabled inertial gain offset) 0 1 = i ∧
      field (channelArguments i enabled inertial gain offset) 1 1 = enabled ∧
      field (channelArguments i enabled inertial gain offset) 6 1 = inertial := by
  simp [channelArguments, field_append_right, field_octetsOf, field_octetsOf_last, hi, he, hn]

theorem signedField_channelArguments {i enabled inertial : Nat} {gain offset : Int} (hg : -32768 ≤ gain)
    (hg' : gain ≤ 32767) (ho : -32768 ≤ offset) (ho' : offset ≤ 32767) :
    signedField (channelArguments i enabled inertial gain offset) 2 2 = gain ∧
      signedField (channelArguments i enabled inertial gain offset) 4 2 = offset := by
  have hgain : signedField (octetsOf 2 gain ++ (octetsOf 2 offset ++ octetsOf 1 (inertial : Int))) 0 2 = gain :=
    signedField_of_front 2 gain _ (by omega) (by omega)
  have hoffset : signedField (octetsOf 2 offset ++ octetsOf 1 (inertial : Int)) 0 2 = offset :=
    signedField_of_front 2 offset _ (by omega) (by omega)
  simp [channelArguments, signedField_append_right, hgain, hoffset]

end

/-! ### ZERO begins or is refused (R49, R54) -/

section

variable {s : State} {source : Octet} {tag mask : Half} {args : List Octet} {rest : List CommandEntry}

theorem State.CanTake.exec_zero (h : s.CanTake (commandEntry source false 0x32 tag args) rest) :
    exec .zero s = .next ((s.taken rest).runZero (commandEntry source false 0x32 tag args)) := by
  have hhead := h.headCommand (row := .zero) (commandEntry_row rfl nofun)
  refine congrArg Host.Outcome.next ?_
  rw [hhead, h.dropCommand]

theorem answer_zeroRefusal (u : State) (source : Octet) (tag mask : Half) (status : Status) (args : List Octet) :
    u.answer (commandEntry source false 0x32 tag args) (u.zeroRefusal mask status) =
      u.answeredWith (zeroAnswer source tag status mask 0 (Vector.replicate 12 0) (u.cal.channels.map ChannelEntry.offset)) := by
  rw [answer_addressed, ← offsetsOf_eq]
  rfl

theorem runZero_of_length {u : State} (h : args.length ≠ 2) : u.runZero (commandEntry source false 0x32 tag args) =
    u.answeredWith (zeroAnswer source tag .length 0 0 (Vector.replicate 12 0) (u.cal.channels.map ChannelEntry.offset)) := by
  rw [← answer_zeroRefusal u source tag 0 .length args]
  refine if_pos ?_
  rw [commandEntry_args]
  exact h

theorem zeroMask_octets (source : Octet) (tag mask : Half) :
    zeroMask (commandEntry source false 0x32 tag (octetsOf 2 mask.toNat)) = mask := by
  rw [zeroMask, commandEntry_args, field_octetsOf_last 2 _ mask.isLt, BitVec.ofNat_toNat, BitVec.setWidth_eq]

/-- R49: a ZERO outside STOPPED. -/
theorem runZero_of_state {u : State} (h : u.cmu.runState ≠ .stopped) :
    u.runZero (commandEntry source false 0x32 tag (octetsOf 2 mask.toNat)) = u.answeredWith
      (zeroAnswer source tag .state mask 0 (Vector.replicate 12 0) (u.cal.channels.map ChannelEntry.offset)) := by
  rw [← answer_zeroRefusal u source tag mask .state (octetsOf 2 mask.toNat), State.runZero, commandEntry_args, octetsOf_length,
    if_neg (c := 2 ≠ argumentOctets _) (not_not_intro rfl), if_neg (by simpa [onlyStopped] using h), zeroMask_octets]

/-- R49: a ZERO in STOPPED that fails a check. -/
theorem runZero_of_refused {u : State} {status : Status} (h : u.cmu.runState = .stopped)
    (hcheck : u.cal.zeroCheck mask = some status) :
    u.runZero (commandEntry source false 0x32 tag (octetsOf 2 mask.toNat)) = u.answeredWith
      (zeroAnswer source tag status mask 0 (Vector.replicate 12 0) (u.cal.channels.map ChannelEntry.offset)) := by
  rw [← answer_zeroRefusal u source tag mask status (octetsOf 2 mask.toNat), State.runZero, commandEntry_args, octetsOf_length,
    if_neg (c := 2 ≠ argumentOctets _) (not_not_intro rfl), if_pos (by simpa [onlyStopped] using h), zeroMask_octets, hcheck]

/-- R49: a ZERO in STOPPED that meets its checks. -/
theorem runZero_of_accepted {u : State} (h : u.cmu.runState = .stopped) (hcheck : u.cal.zeroCheck mask = none) :
    u.runZero (commandEntry source false 0x32 tag (octetsOf 2 mask.toNat)) = { u with
      cal := { u.cal with
        zero := .collecting
          { mask := mask.setWidth 12, tag := tag, source := source, counts := Vector.replicate 12 0
            sums := Vector.replicate 12 0, timeoutMs := 2000 } } } := by
  rw [State.runZero, commandEntry_args, octetsOf_length, if_neg (c := 2 ≠ argumentOctets _) (not_not_intro rfl), if_pos (by simpa [onlyStopped] using h),
    zeroMask_octets, hcheck]
  dsimp only
  rw [Cal.beginZero, zeroCollection, zeroMask_octets, commandEntry_tag]
  rfl

theorem zeroCheck_of_busy {c : Cal} (h : c.zero ≠ .idle) : c.zeroCheck mask = some .busy := if_pos h

/-- R49: the mask names a channel that is not enabled. -/
theorem any_disabled_iff (c : Cal) : (List.finRange 12).any (fun i => mask.getLsbD i.val && !(c.channels[i]).enabled) = true ↔
    ∃ i : Fin 12, mask.getLsbD i.val = true ∧ (c.channels[i]).enabled = false := by
  rw [List.any_eq_true]
  refine ⟨fun ⟨i, _, h⟩ => ⟨i, ?_⟩, fun ⟨i, hbit, hoff⟩ => ⟨i, List.mem_finRange i, ?_⟩⟩
  · rwa [Bool.and_eq_true, Bool.not_eq_true'] at h
  · rw [Bool.and_eq_true, Bool.not_eq_true']
    exact ⟨hbit, hoff⟩

theorem zeroCheck_of_bad {c : Cal} (hz : c.zero = .idle) (h : mask = 0 ∨ 4096 ≤ mask.toNat ∨
    ∃ i : Fin 12, mask.getLsbD i.val = true ∧ (c.channels[i]).enabled = false) : c.zeroCheck mask = some .badArg := by
  rw [← any_disabled_iff, ← or_assoc] at h
  rw [Cal.zeroCheck, if_neg (not_not_intro hz)]
  rcases h with hmask | hoff
  · exact if_pos hmask
  · by_cases hmask : mask = 0 ∨ 4096 ≤ mask.toNat
    · rw [if_pos hmask]
    · rw [if_neg hmask, if_pos hoff]

theorem zeroCheck_of_good {c : Cal} (hz : c.zero = .idle) (h : ¬(mask = 0 ∨ 4096 ≤ mask.toNat ∨
    ∃ i : Fin 12, mask.getLsbD i.val = true ∧ (c.channels[i]).enabled = false)) : c.zeroCheck mask = none := by
  rw [← any_disabled_iff, ← or_assoc, not_or] at h
  obtain ⟨hmask, hoff⟩ := h
  rw [Cal.zeroCheck, if_neg (not_not_intro hz), if_neg hmask, if_neg hoff]

end

end Sys2Proof.Machine

/-! The statements about frames calibrated, the channel commands and the beginning of a ZERO. -/

namespace Sys2Proof.Proofs

open Sys2Proof Sys2Proof.Machine

/-- Settles O25: with no ZERO collecting a frame take is the calibrated record and the readings renewed. -/
theorem frameTakeCalibratesTheHeadEntry : Obligations.FrameTakeCalibratesTheHeadEntry := by
  unfold Obligations.FrameTakeCalibratesTheHeadEntry
  refine fun s => ⟨fun h => congrArg Host.Outcome.next (takeFrame_of_no_entry h), fun e rest hq hheld hz => ?_⟩
  intro value
  have htaken : s.takeFrame = s.frameTaken e rest := takeFrame_of_idle (c := s.cal) hq hheld hz
  refine congrArg Host.Outcome.next (htaken.trans ?_)
  rw [State.frameTaken, take_of_not_collecting (value := value) hz fun i => calibrate_eq _ _ _]
  rfl

/-- Settles O26: each command finds its fields as they were written, then its row of the table. -/
theorem channelEntriesAreWrittenAndRead : Obligations.ChannelEntriesAreWrittenAndRead := by
  unfold Obligations.ChannelEntriesAreWrittenAndRead
  refine ⟨fun s source tag rest i enabled inertial gain offset hi he hn hg hg' ho ho' hcan hstop => ?_,
    fun s source tag rest i hi hcan => ?_⟩
  · change s.CanTake (commandEntry source false 0x30 tag (channelArguments i enabled inertial gain offset)) rest at hcan
    have hargs := commandEntry_args source false 0x30 tag (channelArguments i enabled inertial gain offset)
    obtain ⟨hnumber, henabled, hinertial⟩ := field_channelArguments (gain := gain) (offset := offset) hi he hn
    obtain ⟨hgain, hoffset⟩ := signedField_channelArguments (i := i) (enabled := enabled) (inertial := inertial) hg hg' ho ho'
    rw [← hargs] at hnumber henabled hinertial hgain hoffset
    refine ⟨fun hbad => ?_, fun h he2 hn2 => ?_⟩
    · refine hcan.exec_addressed (row := .writeChannel) rfl nofun rfl rfl hstop (r := .refuse .badArg) ?_
      rcases hbad with hbad | hbad
      · exact writeChannel_of_number (hbad.trans_eq hnumber.symm)
      · refine writeChannel_of_flag (channelEntry?_of_none ?_)
        rw [henabled, hinertial]
        exact hbad
    · have hentry := channelEntry?_of_some (henabled.trans_lt he2) (hinertial.trans_lt hn2)
      rw [henabled, hinertial, hgain, hoffset] at hentry
      refine ⟨fun hbusy => ?_, fun hfree => ?_⟩
      · refine hcan.exec_addressed (row := .writeChannel) rfl nofun rfl rfl hstop (r := .refuse .busy) ?_
        refine (writeChannel_of_entry hentry hnumber h).trans (if_pos ?_)
        exact zeroing_iff.mpr hbusy
      · refine hcan.exec_addressed (row := .writeChannel) rfl nofun rfl rfl hstop (r := .done []) ?_
        refine (writeChannel_of_entry hentry hnumber h).trans (if_neg fun hbusy => ?_)
        obtain ⟨z, hz, hbit⟩ := zeroing_iff.mp hbusy
        exact absurd ((hfree z hz).symm.trans hbit) nofun
  · have hnumber : field (commandEntry source false 0x31 tag (octetsOf 1 i)).args 0 1 = i :=
      (commandEntry_args ..).symm ▸ field_octetsOf_last 1 i hi
    refine ⟨fun h => ?_, fun h => ?_⟩
    · exact hcan.exec_addressed (row := .readChannel) rfl nofun rfl rfl trivial (r := .refuse .badArg)
        (readChannel_of_number (h.trans_eq hnumber.symm))
    · intro c entry
      have hread := hcan.exec_addressed (row := .readChannel) rfl nofun rfl rfl trivial
        (readChannel_of_channel (s := s.taken rest) hnumber h)
      have hresults : s.cal.channelResults ⟨i, h⟩ = entry ++ readingOctets (s.cal.lastReading[i]) := rfl
      refine ⟨fun hnone => hread.trans ?_, fun r hsome => hread.trans ?_⟩
      · rw [show (Reply.done ((s.taken rest).cal.channelResults ⟨i, h⟩)).results = _ from hresults, hnone]
        rfl
      · rw [show (Reply.done ((s.taken rest).cal.channelResults ⟨i, h⟩)).results = _ from hresults, hsome]
        simp only [readingOctets, List.append_assoc]
        rfl

/-- Settles O27: the length, the run state and then the checks of ZERO, in order. -/
theorem zeroIsRefusedAtOnceOrCollects : Obligations.ZeroIsRefusedAtOnceOrCollects := by
  unfold Obligations.ZeroIsRefusedAtOnceOrCollects
  refine ⟨fun s source tag args rest hcan hlength => ?_, fun s source tag mask rest hcan => ?_⟩
  · rw [hcan.exec_zero, runZero_of_length hlength]
    rfl
  · intro refused bad
    rw [hcan.exec_zero]
    exact ⟨fun h => congrArg Host.Outcome.next (runZero_of_state h),
      fun h hbusy => congrArg Host.Outcome.next (runZero_of_refused h (zeroCheck_of_busy hbusy)),
      fun h hz hbad => congrArg Host.Outcome.next (runZero_of_refused h (zeroCheck_of_bad hz hbad)),
      fun h hz hgood => congrArg Host.Outcome.next (runZero_of_accepted h (zeroCheck_of_good hz hgood))⟩

end Sys2Proof.Proofs


/-! SUPPORT. The levels of a limit set as the highest with a property, and the judgement of one measure, branch by branch
(R129, R135 to R146). -/

namespace Sys2Proof.Machine

/-! ### Levels (R129, R137, R143) -/

theorem highestLevel_eq_zero {p : Nat → Bool} (h : ∀ k, 1 ≤ k → k ≤ 3 → p k = false) : highestLevel p = 0 := by
  rcases highestLevel_spec p with ⟨h0, _⟩ | ⟨h1, h3, hp, _⟩
  · exact h0
  · exact absurd ((h _ h1 h3).symm.trans hp) nofun

theorem highestLevel_eq {p : Nat → Bool} {e : Nat} (h1 : 1 ≤ e) (h3 : e ≤ 3) (he : p e = true)
    (htop : ∀ k, 1 ≤ k → k ≤ 3 → p k = true → k ≤ e) : highestLevel p = e := by
  have hnone : ∀ k, highestLevel p < k → k ≤ 3 → p k = false := by
    rcases highestLevel_spec p with ⟨_, hp1, hp2, hp3⟩ | ⟨_, _, _, hnone⟩
    · intro k hk hk3
      obtain rfl | rfl | rfl : k = 1 ∨ k = 2 ∨ k = 3 := by omega
      · exact hp1
      · exact hp2
      · exact hp3
    · exact hnone
  have hle : e ≤ highestLevel p := not_lt.mp fun hlt => absurd ((hnone e hlt h3).symm.trans he) nofun
  rcases highestLevel_spec p with ⟨h0, _⟩ | ⟨hp1, hp3, hp, _⟩
  · omega
  · exact le_antisymm (htop _ hp1 hp3 hp) hle

/-- R129: a level of a limit set that is used. -/
def LimitSet.IsLevel (l : LimitSet) (k : Nat) : Prop := 1 ≤ k ∧ k ≤ 3 ∧ 0 < l.enter k

section

variable {l : LimitSet} {d : Detector} {kind : MeasureEntry} {m : Fin 16} {j : Judged}

/-- R130: the enter limits of the used levels rise from the first. -/
theorem LimitSet.Lawful.enter1_le (h : l.Lawful) {k : Nat} (hk : l.IsLevel k) : l.enter1 ≤ l.enter k := by
  obtain ⟨h1, h3, hpos⟩ := hk
  obtain rfl | rfl | rfl : k = 1 ∨ k = 2 ∨ k = 3 := by omega
  · exact le_rfl
  · exact (h.second hpos).2.le
  · obtain ⟨h2, hlt⟩ := h.third hpos
    exact ((h.second h2).2.trans hlt).le

/-- R129: the entered level of a magnitude. -/
theorem LimitSet.Lawful.entered_eq (h : l.Lawful) {a e : Nat} (he : (e = 0 ∧ ∀ k, l.IsLevel k → a < l.enter k) ∨
    (l.IsLevel e ∧ l.enter e ≤ a ∧ ∀ k, l.IsLevel k → l.enter k ≤ a → k ≤ e)) : l.entered a = e := by
  unfold LimitSet.entered
  rcases he with ⟨rfl, hnone⟩ | ⟨he, hreach, htop⟩
  · split
    · rfl
    · refine highestLevel_eq_zero fun k h1 h3 => ?_
      by_contra hk
      obtain ⟨hused, hle⟩ := (Bool.and_eq_true_iff).mp (eq_true_of_ne_false hk)
      exact absurd (of_decide_eq_true hle) (not_le.mpr (hnone k ⟨h1, h3, of_decide_eq_true hused⟩))
  · rw [if_neg (not_lt.mpr ((h.enter1_le he).trans hreach))]
    refine highestLevel_eq he.1 he.2.1 ?_ fun k h1 h3 hk => ?_
    · exact Bool.and_eq_true_iff.mpr ⟨decide_eq_true he.2.2, decide_eq_true hreach⟩
    · obtain ⟨hused, hle⟩ := Bool.and_eq_true_iff.mp hk
      exact htop k ⟨h1, h3, of_decide_eq_true hused⟩ (of_decide_eq_true hle)

/-- R137: the highest used level. -/
theorem highestUsed_eq {u : Nat} (hu : l.IsLevel u) (htop : ∀ k, l.IsLevel k → k ≤ u) : l.highestUsed = u :=
  highestLevel_eq hu.1 hu.2.1 (decide_eq_true hu.2.2) fun k h1 h3 hk => htop k ⟨h1, h3, of_decide_eq_true hk⟩

theorem le_highestUsed {k : Nat} (hk : l.IsLevel k) : k ≤ l.highestUsed := by
  obtain ⟨h1, h3, hpos⟩ := hk
  rcases highestLevel_spec l.used with ⟨_, hu1, hu2, hu3⟩ | ⟨_, _, _, htop⟩
  · obtain rfl | rfl | rfl : k = 1 ∨ k = 2 ∨ k = 3 := by omega
    · exact absurd hpos (of_decide_eq_false hu1)
    · exact absurd hpos (of_decide_eq_false hu2)
    · exact absurd hpos (of_decide_eq_false hu3)
  · exact not_lt.mp fun hlt => absurd hpos (of_decide_eq_false (htop k hlt h3))

/-- R143: the level a fall run ends at. -/
theorem fallTo_eq {c a t : Nat} (ht : (t = 0 ∧ ∀ k, l.IsLevel k → k < c → (a : Int) < l.exit k) ∨
    (l.IsLevel t ∧ t < c ∧ ¬(a : Int) < l.exit t ∧ ∀ k, l.IsLevel k → k < c → ¬(a : Int) < l.exit k → k ≤ t)) :
    l.fallTo c a = t := by
  have hcriterion : ∀ k, (l.used k && decide (k < c) && decide (l.exit k ≤ (a : Int))) = true ↔
      0 < l.enter k ∧ k < c ∧ ¬(a : Int) < l.exit k := fun k => by
    rw [Bool.and_eq_true, Bool.and_eq_true, LimitSet.used, decide_eq_true_eq, decide_eq_true_eq, decide_eq_true_eq, not_lt,
      and_assoc]
  rcases ht with ⟨rfl, hnone⟩ | ⟨ht, hlt, hmeets, htop⟩
  · refine highestLevel_eq_zero fun k h1 h3 => Bool.eq_false_iff.mpr fun hk => ?_
    obtain ⟨hused, hkc, hmeets⟩ := (hcriterion k).mp hk
    exact hmeets (hnone k ⟨h1, h3, hused⟩ hkc)
  · refine highestLevel_eq ht.1 ht.2.1 ((hcriterion t).mpr ⟨ht.2.2, hlt, hmeets⟩) fun k h1 h3 hk => ?_
    obtain ⟨hused, hkc, hmeets'⟩ := (hcriterion k).mp hk
    exact htop k ⟨h1, h3, hused⟩ hkc hmeets'

/-! ### The judgement's first steps (R136 to R138) -/

/-- R136: a measure that has no limits at a row. -/
theorem judge_of_no_limits (h : ¬(kind ≠ .disabled ∧ 0 < l.enter1)) : d.judge kind l m j = d.noLimits m j := by
  refine if_pos ?_
  rw [LimitSet.used, decide_eq_false_iff_not]
  exact not_and_or.mp h |>.imp_left not_not.mp

theorem judge_of_limits (h : kind ≠ .disabled ∧ 0 < l.enter1) : d.judge kind l m j =
    if j.suppressed then (d.enable.lower l.highestUsed).suppress m j else (d.enable.lower l.highestUsed).judgeValue l m j := by
  refine if_neg ?_
  rw [LimitSet.used, decide_eq_false_iff_not, not_or, not_not]
  exact h

theorem noLimits_eq (d : Detector) (m : Fin 16) (j : Judged) : d.noLimits m j =
    (if d.mode = .disabled then d else .cleared .disabled,
      if d.mode = .active then [d.closeNotice m .noLimits (d.previous.getD j.row)] else []) := by
  unfold Detector.noLimits
  split <;> (next hm => rw [hm]; rfl)

theorem enable_of_enabled (h : d.mode ≠ .disabled) : d.enable = d := if_neg h

theorem enable_of_disabled (h : d.mode = .disabled) : d.enable = .cleared .quiet := if_pos h

theorem lower_of_low {u : Nat} (h : d.mode = .active → d.level ≤ u) : d.lower u = d :=
  if_neg fun ⟨hm, hlt⟩ => absurd (h hm) (not_le.mpr hlt)

theorem lower_of_high {u : Nat} (hm : d.mode = .active) (h : u < d.level) :
    d.lower u = { d with level := u, riseCount := 0, riseMin := 0, fallCount := 0, lastHold := none } := if_pos ⟨hm, h⟩

/-- R136, R137: a detector that the first steps leave as it stands. -/
theorem judge_of_settled (h : kind ≠ .disabled ∧ 0 < l.enter1) (hs : j.suppressed = false) (hm : d.mode ≠ .disabled)
    (hlevel : d.mode = .active → l.IsLevel d.level) : d.judge kind l m j = d.judgeValue l m j := by
  rw [judge_of_limits h, enable_of_enabled hm, lower_of_low fun hactive => le_highestUsed (hlevel hactive), hs]
  rfl

theorem judge_enable (h : kind ≠ .disabled ∧ 0 < l.enter1) (hm : d.mode = .disabled) :
    d.judge kind l m j = (Detector.cleared .quiet).judge kind l m j := by
  rw [judge_of_limits h, judge_of_limits h, enable_of_disabled hm]
  rfl

theorem judge_lower (h : kind ≠ .disabled ∧ 0 < l.enter1) (hm : d.mode = .active) {u : Nat} (hu : l.IsLevel u)
    (htop : ∀ k, l.IsLevel k → k ≤ u) (hlt : u < d.level) : d.judge kind l m j =
      ({ d with level := u, riseCount := 0, riseMin := 0, fallCount := 0, lastHold := none } : Detector).judge kind l m j := by
  have hactive : d.mode ≠ .disabled := by rw [hm]; nofun
  have henable := enable_of_enabled (d := { d with level := u, riseCount := 0, riseMin := 0, fallCount := 0, lastHold := none })
    hactive
  rw [judge_of_limits h, judge_of_limits h, enable_of_enabled hactive, henable, highestUsed_eq hu htop, lower_of_high hm hlt,
    lower_of_low fun _ => le_rfl]

/-- R138: a suppressed measure. -/
theorem judge_of_suppressed (h : kind ≠ .disabled ∧ 0 < l.enter1) (hs : j.suppressed = true) : d.judge kind l m j =
    (.cleared .quiet, if d.mode = .active then
      [.closed m .suppressed (d.previous.getD j.row) (d.lower l.highestUsed).level] else []) := by
  rw [judge_of_limits h, hs, if_pos rfl, Detector.suppress, lower_mode]
  by_cases hm : d.mode = .active
  · have hprevious : (d.lower l.highestUsed).previous = d.previous := by
      unfold Detector.lower
      split <;> rfl
    rw [enable_of_enabled (by rw [hm]; nofun), if_pos hm, if_pos hm, Detector.closeNotice, hprevious]
  · rw [if_neg hm, if_neg fun hactive => hm (enable_active.mp hactive)]

/-- R137: the lowered level is no higher, and is the same while a used level is as high. -/
theorem lower_level (d : Detector) (u : Nat) : (d.lower u).level ≤ d.level ∧ (d.level ≤ u → (d.lower u).level = d.level) := by
  unfold Detector.lower
  split
  · next h => exact ⟨h.2.le, fun hle => absurd h.2 (not_lt.mpr hle)⟩
  · exact ⟨le_rfl, fun _ => rfl⟩

/-! ### A row's value in each mode (R139 to R145) -/

theorem judgeValue_of_quiet (hm : d.mode = .quiet) (hv : j.value.valid = true) : d.judgeValue l m j = d.judgeQuiet l m j := by
  rw [Detector.judgeValue, hm, hv]
  rfl

theorem judgeValue_of_quiet_invalid (hm : d.mode = .quiet) (hv : j.value.valid = false) :
    d.judgeValue l m j = ({ d with riseCount := 0, riseMin := 0, pendingRun := none }, []) := by
  rw [Detector.judgeValue, hm, hv]
  rfl

theorem judgeValue_of_latched (hm : d.mode = .latched) (hv : j.value.valid = true) :
    d.judgeValue l m j = (d.judgeLatched l j, []) := by
  rw [Detector.judgeValue, hm, hv]
  rfl

theorem judgeValue_of_latched_invalid (hm : d.mode = .latched) (hv : j.value.valid = false) :
    d.judgeValue l m j = ({ d with releaseCount := 0 }, []) := by
  rw [Detector.judgeValue, hm, hv]
  rfl

theorem judgeValue_of_active (hm : d.mode = .active) (hv : j.value.valid = true) :
    d.judgeValue l m j = d.lengthen.judgeActive l m j := by
  rw [Detector.judgeValue, hm, hv]
  rfl

theorem judgeValue_of_active_invalid (hm : d.mode = .active) (hv : j.value.valid = false) :
    d.judgeValue l m j = d.lengthen.fallRow.endFall l m j 0 := by
  rw [Detector.judgeValue, hm, hv]
  rfl

section

variable {e : Nat}

/-- R140: a row in QUIET that enters no level. -/
theorem judgeQuiet_of_none (he : l.entered (j.magnitude l) = 0) :
    d.judgeQuiet l m j = ({ d with riseCount := 0, riseMin := 0, pendingRun := none }, []) := if_pos he

/-- R140: a row in QUIET of a rise not yet long enough. -/
theorem judgeQuiet_of_rising (he : l.entered (j.magnitude l) = e) (hpos : 0 < e) (h : d.riseCount + 1 < l.e) :
    d.judgeQuiet l m j = ({ d with
      riseCount := d.riseCount + 1, riseMin := d.riseMinAfter e, pendingRun := some (d.runAfter l j) }, []) := by
  subst he
  exact (if_neg hpos.ne').trans (if_neg (not_le.mpr h))

/-- R140: the row that makes a detector ACTIVE. -/
theorem judgeQuiet_of_opening (he : l.entered (j.magnitude l) = e) (hpos : 0 < e) (h : l.e ≤ d.riseCount + 1) :
    d.judgeQuiet l m j = (((d.activate e j.row).checkLength l m j).1,
      .opened m (d.runAfter l j) (d.riseMinAfter e) j.row j.epoch j.speed ::
        ((d.activate e j.row).checkLength l m j).2) := by
  subst he
  exact (if_neg hpos.ne').trans (if_pos h)

theorem reachesMaximum_iff : d.reachesMaximum l = true ↔ 0 < l.maxLength ∧ l.maxLength ≤ d.runLength := by
  simp [Detector.reachesMaximum]

theorem checkLength_of_short (h : ¬(0 < l.maxLength ∧ l.maxLength ≤ d.runLength)) : d.checkLength l m j = (d, []) :=
  if_neg (mt reachesMaximum_iff.mp h)

theorem checkLength_of_long (h : 0 < l.maxLength ∧ l.maxLength ≤ d.runLength) :
    d.checkLength l m j = (.cleared .latched, [.closed m .long j.row d.level]) := if_pos (reachesMaximum_iff.mpr h)

/-- R142, R144: a row of an exceedance that stays open. -/
theorem stayActive_of_short (h : ¬(0 < l.maxLength ∧ l.maxLength ≤ d.runLength)) :
    d.stayActive l m j = ({ d with previous := some j.row }, [j.rowNotice l m d.level]) := by
  rw [Detector.stayActive, checkLength_of_short (d := { d with previous := some j.row }) h]

/-- R144: the row that brings an exceedance to its maximum length. -/
theorem stayActive_of_long (h : 0 < l.maxLength ∧ l.maxLength ≤ d.runLength) :
    d.stayActive l m j = (.cleared .latched, [j.rowNotice l m d.level, .closed m .long j.row d.level]) := by
  rw [Detector.stayActive, checkLength_of_long (d := { d with previous := some j.row }) h]

theorem escalate_of_short (h : d.riseCount + 1 < l.e) : d.escalate l e =
    { d with riseCount := d.riseCount + 1, riseMin := d.riseMinAfter e, fallCount := 0 } := if_neg (not_le.mpr h)

theorem escalate_of_reached (h : l.e ≤ d.riseCount + 1) : d.escalate l e =
    { d with level := d.riseMinAfter e, riseCount := 0, riseMin := d.riseMinAfter e, fallCount := 0 } := if_pos h

theorem judgeActive_of_rise (he : l.entered (j.magnitude l) = e) (h : d.level < e) :
    d.judgeActive l m j = (d.escalate l e).stayActive l m j := by
  subst he
  exact if_pos h

theorem judgeActive_of_steady (he : l.entered (j.magnitude l) = e) (h : e ≤ d.level)
    (hexit : ¬(j.magnitude l : Int) < l.exit d.level) : d.judgeActive l m j =
      ({ d with riseCount := 0, riseMin := 0, fallCount := 0, lastHold := none } : Detector).stayActive l m j := by
  subst he
  exact (if_neg (not_lt.mpr h)).trans (if_neg hexit)

theorem judgeActive_of_fall (he : l.entered (j.magnitude l) = e) (h : e ≤ d.level)
    (hexit : (j.magnitude l : Int) < l.exit d.level) :
    d.judgeActive l m j = d.fallRow.endFall l m j (l.fallTo d.level (j.magnitude l)) := by
  subst he
  exact (if_neg (not_lt.mpr h)).trans (if_pos hexit)

theorem endFall_of_short {target : Nat} (h : d.fallCount < l.x) : d.endFall l m j target = d.stayActive l m j := if_pos h

theorem endFall_of_close (h : l.x ≤ d.fallCount) : d.endFall l m j 0 =
    (.cleared .quiet, [j.rowNotice l m d.level, .closed m .fall (d.lastHold.getD j.row) d.level]) :=
  (if_neg (not_lt.mpr h)).trans (if_pos rfl)

theorem endFall_of_lower {target : Nat} (h : l.x ≤ d.fallCount) (ht : 0 < target) : d.endFall l m j target =
    ({ d with level := target, fallCount := 0, lastHold := none } : Detector).stayActive l m j :=
  (if_neg (not_lt.mpr h)).trans (if_neg ht.ne')

end

/-- R140: what the pending run of a rise becomes. -/
theorem runAfter_eq (d : Detector) (l : LimitSet) (j : Judged) :
    (d.riseCount = 0 → d.runAfter l j =
      { start := j.row, band := j.band, epoch := j.epoch
        peak := { magnitude := j.magnitude l, signed := j.value.value, row := j.row }
        sat := j.value.saturated, lowSpeed := j.lowSpeed, corrected := false }) ∧
    (0 < d.riseCount → ∀ p, d.pendingRun = some p → d.runAfter l j =
      { start := p.start, band := p.band, epoch := p.epoch
        peak := if p.peak.magnitude < j.magnitude l then
          { magnitude := j.magnitude l, signed := j.value.value, row := j.row } else p.peak
        sat := p.sat || j.value.saturated, lowSpeed := p.lowSpeed || j.lowSpeed
        corrected := p.corrected || decide (j.epoch ≠ p.epoch) }) := by
  refine ⟨fun h => if_pos h, fun h p hp => (if_neg h.ne').trans ?_⟩
  rw [hp]
  dsimp only [Judged.extendRun, Peak.after]
  rw [decide_not]
  rfl

end

end Sys2Proof.Machine

/-! The statement about the detector. -/

namespace Sys2Proof.Proofs

open Sys2Proof Sys2Proof.Machine

/-- Settles O43: the branches of the judgement of one measure, for a limit set whose levels rise. -/
theorem detectorsRiseHoldAndFall : Obligations.DetectorsRiseHoldAndFall := by
  unfold Obligations.DetectorsRiseHoldAndFall
  intro d kind l m j hl next cleared a enter level below entered lowest hasLimits row here rising
  have henter : ∀ k, 1 ≤ k → k ≤ 3 → enter k = l.enter k := fun k h1 h3 => by
    obtain rfl | rfl | rfl : k = 1 ∨ k = 2 ∨ k = 3 := by omega
    · rfl
    · rfl
    · rfl
  have hlevel : ∀ k, level k ↔ l.IsLevel k := fun k =>
    and_congr_right fun h1 => and_congr_right fun h3 => by rw [henter k h1 h3]
  have hbelow : ∀ k, 1 ≤ k → k ≤ 3 → (below k ↔ (j.magnitude l : Int) < l.exit k) := fun k h1 h3 => by
    show (a : Int) < (enter k : Int) - l.h ↔ _
    rw [henter k h1 h3]
    rfl
  have hentered : ∀ e, entered e → l.entered (j.magnitude l) = e := fun e he => by
    refine hl.entered_eq (he.imp (fun h => ⟨h.1, fun k hk => ?_⟩) fun h => ⟨(hlevel e).mp h.1, ?_, fun k hk hle => ?_⟩)
    · rw [← henter k hk.1 hk.2.1]
      exact h.2 k ((hlevel k).mpr hk)
    · rw [← henter e h.1.1 h.1.2.1]
      exact h.2.1
    · rw [← henter k hk.1 hk.2.1] at hle
      exact h.2.2 k ((hlevel k).mpr hk) hle
  have hrising : rising (d.runAfter l j) := runAfter_eq d l j
  have hsettled : hasLimits → j.suppressed = false → d.mode ≠ .disabled → (d.mode = .active → level d.level) →
      next = d.judgeValue l m j := fun h hs hm hused => judge_of_settled h hs hm fun hactive => (hlevel _).mp (hused hactive)
  refine ⟨fun h => ?_, fun h hm => judge_enable h hm, fun h hm u hu htop hlt => ?_, fun h hs => ?_,
    fun h hs hv => ⟨fun hm e he => ?_, fun hm => ?_⟩, fun h hs hv hm hused e c he => ?_,
    fun h hs hv => ⟨fun hm => ?_, fun hm => ?_, fun hm hused hfall => ?_, fun hm hused hfall => ?_⟩⟩
  case refine_1 =>
    have hnext : next = _ := (judge_of_no_limits h).trans (noLimits_eq d m j)
    rw [hnext]
    exact ⟨rfl, rfl⟩
  case refine_2 => exact judge_lower h hm ((hlevel u).mp hu) (fun k hk => htop k ((hlevel k).mpr hk)) hlt
  case refine_3 =>
    have hnext : next = _ := judge_of_suppressed h hs
    obtain ⟨hle, hsame⟩ := lower_level d l.highestUsed
    rw [hnext]
    exact ⟨rfl, fun hm => if_neg hm, fun hm => ⟨(d.lower l.highestUsed).level, if_pos hm, hle,
      fun ⟨k, hk, hdk⟩ => hsame (hdk.trans (le_highestUsed ((hlevel k).mp hk)))⟩⟩
  case refine_4 =>
    have hquiet : next = _ := (hsettled h hs (by rw [hm]; nofun) (fun hactive => absurd (hm.symm.trans hactive) nofun)).trans
      (judgeValue_of_quiet hm hv)
    refine ⟨fun h0 => ?_, fun hpos hshort => ⟨d.runAfter l j, hrising, ?_⟩, fun hpos hlong => ⟨d.runAfter l j, hrising, ?_⟩⟩
    · have hnext := hquiet.trans (judgeQuiet_of_none ((hentered e he).trans h0))
      rw [hnext]
      exact ⟨rfl, rfl⟩
    · have hnext := hquiet.trans (judgeQuiet_of_rising (hentered e he) hpos hshort)
      rw [hnext]
      exact ⟨rfl, rfl⟩
    · have hopens := hquiet.trans (judgeQuiet_of_opening (hentered e he) hpos hlong)
      intro opening
      refine ⟨fun hshort => ?_, fun hmax hreach => ?_⟩
      · rw [checkLength_of_short (d := d.activate e j.row) hshort] at hopens
        rw [hopens]
        exact ⟨rfl, rfl⟩
      · rw [checkLength_of_long (d := d.activate e j.row) ⟨hmax, hreach⟩] at hopens
        rw [hopens]
        exact ⟨rfl, rfl⟩
  case refine_5 =>
    have hnext : next = _ := (hsettled h hs (by rw [hm]; nofun) (fun hactive => absurd (hm.symm.trans hactive) nofun)).trans
      (judgeValue_of_latched hm hv)
    have hexit := hbelow 1 le_rfl (by decide)
    rw [hnext]
    refine ⟨rfl, fun hup => if_neg (mt hexit.mpr hup), fun hdown hshort => ?_, fun hdown hlong => ?_⟩
    · exact (if_pos (hexit.mp hdown)).trans (if_neg (not_le.mpr hshort))
    · exact (if_pos (hexit.mp hdown)).trans (if_pos hlong)
  case refine_6 =>
    have hactive : next = _ := (hsettled h hs (by rw [hm]; nofun) (fun _ => hused)).trans (judgeValue_of_active hm hv)
    intro long target open'
    have hopen : ∀ d1 : Detector, next = d1.stayActive l m j →
        d1 = { d with
          level := d1.level, riseCount := d1.riseCount, riseMin := d1.riseMin, fallCount := d1.fallCount
          lastHold := d1.lastHold, runLength := min (d.runLength + 1) 65535 } →
        open' d1.level ∧ (¬long → next.1.riseCount = d1.riseCount ∧ next.1.riseMin = d1.riseMin ∧
          next.1.fallCount = d1.fallCount ∧ next.1.lastHold = d1.lastHold) := fun d1 hstay hframe => by
      have hlength : d1.runLength = min (d.runLength + 1) 65535 := congrArg Detector.runLength hframe
      by_cases hlong : long
      · rw [stayActive_of_long (by rw [hlength]; exact hlong)] at hstay
        refine ⟨⟨fun hshort => absurd hlong hshort, fun _ => ?_⟩, fun hshort => absurd hlong hshort⟩
        rw [hstay]
        exact ⟨rfl, rfl⟩
      · rw [stayActive_of_short (by rw [hlength]; exact hlong)] at hstay
        refine ⟨⟨fun _ => ?_, fun h => absurd h hlong⟩, fun _ => ?_⟩
        · rw [hstay]
          exact ⟨rfl, congrArg (fun x : Detector => { x with previous := some j.row }) hframe⟩
        · rw [hstay]
          exact ⟨rfl, rfl, rfl, rfl⟩
    have hexit := hbelow d.level hused.1 hused.2.1
    have htarget : ∀ c, ((c = 0 ∧ ∀ k, level k → k < d.level → below k) ∨
        (level c ∧ c < d.level ∧ ¬below c ∧ ∀ k, level k → k < d.level → ¬below k → k ≤ c)) →
        l.fallTo d.level (j.magnitude l) = c := fun c hc => by
      refine fallTo_eq (hc.imp (fun ⟨h0, hnone⟩ => ⟨h0, fun k hk hlt => ?_⟩) fun ⟨hc, hlt, hup, htop⟩ =>
        ⟨(hlevel c).mp hc, hlt, mt (hbelow c hc.1 hc.2.1).mpr hup, fun k hk hlt hup => ?_⟩)
      · exact (hbelow k hk.1 hk.2.1).mp (hnone k ((hlevel k).mpr hk) hlt)
      · exact htop k ((hlevel k).mpr hk) hlt (mt (hbelow k hk.1 hk.2.1).mp hup)
    refine ⟨fun hrise hshort => ?_, fun hrise hlong => ?_, fun hle hup => ?_, fun hle hdown hshort => ?_,
      fun hle hdown hlong ht hc => ?_, fun hle hdown hlong ht hc => ?_⟩
    · have hstay := hactive.trans (judgeActive_of_rise (d := d.lengthen) (hentered e he) hrise)
      rw [escalate_of_short (d := d.lengthen) hshort] at hstay
      obtain ⟨hopens, hcounts⟩ := hopen _ hstay rfl
      refine ⟨hopens, fun hl => ?_⟩
      obtain ⟨hcount, hmin, hfall, _⟩ := hcounts hl
      exact ⟨hcount, hmin, hfall⟩
    · have hstay := hactive.trans (judgeActive_of_rise (d := d.lengthen) (hentered e he) hrise)
      rw [escalate_of_reached (d := d.lengthen) hlong] at hstay
      obtain ⟨hopens, hcounts⟩ := hopen _ hstay rfl
      refine ⟨hopens, fun hl => ?_⟩
      obtain ⟨hcount, _, hfall, _⟩ := hcounts hl
      exact ⟨hcount, hfall⟩
    · have hstay := hactive.trans (judgeActive_of_steady (d := d.lengthen) (hentered e he) hle (mt hexit.mpr hup))
      exact hopen _ hstay rfl
    · have hfall := hactive.trans (judgeActive_of_fall (d := d.lengthen) (hentered e he) hle (hexit.mp hdown))
      exact hopen _ (hfall.trans (endFall_of_short (d := d.lengthen.fallRow) hshort)) rfl
    · have hfall := hactive.trans (judgeActive_of_fall (d := d.lengthen) (hentered e he) hle (hexit.mp hdown))
      rw [show l.fallTo d.lengthen.level (j.magnitude l) = c from htarget c ht] at hfall
      exact hopen _ (hfall.trans (endFall_of_lower (d := d.lengthen.fallRow) hlong hc)) rfl
    · have hfall := hactive.trans (judgeActive_of_fall (d := d.lengthen) (hentered e he) hle (hexit.mp hdown))
      rw [show l.fallTo d.lengthen.level (j.magnitude l) = c from htarget c ht, hc] at hfall
      rw [hfall.trans (endFall_of_close (d := d.lengthen.fallRow) hlong)]
      exact ⟨rfl, rfl⟩
  case refine_7 =>
    have hnext : next = _ := (hsettled h hs (by rw [hm]; nofun) (fun hactive => absurd (hm.symm.trans hactive) nofun)).trans
      (judgeValue_of_quiet_invalid hm hv)
    rw [hnext]
    exact ⟨rfl, rfl⟩
  case refine_8 =>
    have hnext : next = _ := (hsettled h hs (by rw [hm]; nofun) (fun hactive => absurd (hm.symm.trans hactive) nofun)).trans
      (judgeValue_of_latched_invalid hm hv)
    rw [hnext]
    exact ⟨rfl, rfl⟩
  case refine_9 =>
    have hactive : next = _ := (hsettled h hs (by rw [hm]; nofun) (fun _ => hused)).trans (judgeValue_of_active_invalid hm hv)
    rw [hactive.trans (endFall_of_close (d := d.lengthen.fallRow) hfall)]
    exact ⟨rfl, rfl⟩
  case refine_10 =>
    have hactive : next = _ := (hsettled h hs (by rw [hm]; nofun) (fun _ => hused)).trans (judgeValue_of_active_invalid hm hv)
    have hstay := hactive.trans (endFall_of_short (d := d.lengthen.fallRow) hfall)
    intro long
    refine ⟨fun hshort => ?_, fun hlong => ?_⟩
    · rw [hstay.trans (stayActive_of_short (d := d.lengthen.fallRow) hshort)]
      exact ⟨rfl, rfl⟩
    · rw [hstay.trans (stayActive_of_long (d := d.lengthen.fallRow) hlong)]
      exact ⟨rfl, rfl⟩

end Sys2Proof.Proofs


/-! SUPPORT. A data octet in RECEIVING, and a whole frame arriving symbol by symbol (R7 to R10, R13, R190, R191). -/

namespace Sys2Proof.Machine

/-! ### A data octet in RECEIVING (R7, R8, R9) -/

section

variable {s : State} {f : Assembly} {h : Header}

theorem arriveOctet_of_header (hr : s.lrx.receiver = .receiving f) (hf : f.header = none) (b : Octet) :
    s.arriveOctet b = s.headerOctet f b := by
  simp only [State.arriveOctet, hr, hf]

theorem arriveOctet_of_body (hr : s.lrx.receiver = .receiving f) (hf : f.header = some h) (b : Octet) :
    s.arriveOctet b = s.bodyOctet f h b := by
  simp only [State.arriveOctet, hr, hf]

theorem headerOctet_of_short (hl : f.octets.length < 4) (b : Octet) : s.headerOctet f b =
    s.withLrx { s.lrx with receiver := .receiving { f with octets := f.octets ++ [b], check := checkOctet f.check b } } :=
  if_pos (by rw [List.length_append, List.length_singleton]; omega)

/-- R8: the header read from five octets. -/
theorem headerOf_five (own d n k l1 b : Octet) : headerOf own [d, n, k, l1, b] =
    { destination := d, source := n, kind := k, length := l1.toNat * 256 + b.toNat
      disposition := if d = own then .consume else if n = own then .remove else if d = 255 then .consumeAndForward
        else .forward } := by
  have hlength : field [d, n, k, l1, b] 3 2 = l1.toNat * 256 + b.toNat := by
    rw [field_two _ 3 (by simp), Nat.mul_comm 256]
    rfl
  rw [headerOf, hlength]
  rfl

theorem headerOctet_of_long {d n k l1 b : Octet} (ho : f.octets = [d, n, k, l1])
    (hl : 1024 < (headerOf s.stationOctet [d, n, k, l1, b]).length) :
    s.headerOctet f b = s.withLrx (s.lrx.move .hunt s.lrx.counters.lengthError) := by
  unfold State.headerOctet
  rw [ho]
  exact if_pos hl

theorem forwards_iff (d : Disposition) : d.forwards = true ↔ d = .forward ∨ d = .consumeAndForward := by
  cases d <;> simp [Disposition.forwards]

theorem handsOver_iff (hf : f.header = some h) :
    f.handsOver = true ↔ (h.disposition = .forward ∨ h.disposition = .consumeAndForward) ∧ f.copyVoid = false := by
  rw [Assembly.handsOver, hf, ← forwards_iff, Bool.and_eq_true, Bool.not_eq_true']

/-- R8, R13: the octet that completes an accepted header. -/
theorem headerOctet_of_complete {d n k l1 b : Octet} (ho : f.octets = [d, n, k, l1])
    (hh : headerOf s.stationOctet [d, n, k, l1, b] = h) (hl : h.length ≤ 1024) : s.headerOctet f b =
      if (h.disposition = .forward ∨ h.disposition = .consumeAndForward) ∧ f.copyVoid = false then
        (s.withLrx { s.lrx with
          receiver := .receiving { octets := [d, n, k, l1, b], header := some h, check := checkOctet f.check b
                                   copyVoid := f.copyVoid } }).frameStartNotice [d, n, k, l1, b]
      else s.withLrx { s.lrx with
        receiver := .receiving { octets := [d, n, k, l1, b], header := some h, check := checkOctet f.check b
                                 copyVoid := f.copyVoid } } := by
  subst hh
  unfold State.headerOctet
  rw [ho]
  refine (if_neg (not_lt.mpr hl)).trans (if_congr ?_ rfl rfl)
  exact handsOver_iff rfl

/-- R9: the octet that makes a frame too long. -/
theorem bodyOctet_of_overlong (hl : 8 + h.length ≤ f.octets.length + 1) (b : Octet) : s.bodyOctet f h b =
    (if f.handsOver then s.dropNotice else s).withLrx (s.lrx.move .hunt s.lrx.counters.framing) :=
  (if_pos hl).trans (discardFrame_withLrx s _ f)

/-- R7, R13: a later octet of a frame. -/
theorem bodyOctet_of_room (hl : f.octets.length + 1 < 8 + h.length) (b : Octet) :
    s.bodyOctet f h b =
      let s1 := s.withLrx { s.lrx with
        receiver := .receiving { f with
          octets := f.octets ++ [b]
          check := if f.octets.length + 1 ≤ 5 + h.length then checkOctet f.check b else f.check } }
      if f.handsOver then s1.handOctet b else s1 := if_neg (not_le.mpr hl)

end

end Sys2Proof.Machine

/-! The statement about data octets. -/

namespace Sys2Proof.Proofs

open Sys2Proof Sys2Proof.Machine

/-- Settles O8: an octet of the header, the one that completes it, and an octet after it. -/
theorem dataOctetsBuildTheFrame : Obligations.DataOctetsBuildTheFrame := by
  unfold Obligations.DataOctetsBuildTheFrame
  intro s f b hlock hr
  rw [exec_dataOctet_of_locked hlock b]
  refine ⟨fun hf hl => congrArg Host.Outcome.next ?_, fun d n k l1 hf ho => ?_, fun h hf hl => congrArg Host.Outcome.next ?_,
    fun h hf hl => congrArg Host.Outcome.next ?_⟩
  · exact (arriveOctet_of_header hr hf b).trans (headerOctet_of_short hl b)
  · intro h g s1
    have hh := headerOf_five s.stationOctet d n k l1 b
    rw [arriveOctet_of_header hr hf b]
    refine ⟨fun hlong => congrArg Host.Outcome.next (headerOctet_of_long ho ?_),
      fun hl => congrArg Host.Outcome.next (headerOctet_of_complete ho hh hl)⟩
    rw [hh]
    exact hlong
  · exact (arriveOctet_of_body hr hf b).trans (bodyOctet_of_room hl b)
  · exact (arriveOctet_of_body hr hf b).trans (bodyOctet_of_overlong hl b)

end Sys2Proof.Proofs


/-! SUPPORT. A whole frame arriving symbol by symbol, and the copy that is passed on (R7 to R10, R13, R190, R191). -/

namespace Sys2Proof.Machine

/-! ### A run of arrivals -/

/-- A machine that assembles a frame, with these commands waiting. -/
def State.receives (s : State) (f : Assembly) (rest : List Instr) : State :=
  { s with lrx := { s.lrx with receiver := .receiving f }, pending := rest }

theorem run_succ_of_step {M : Host.Core} {s t : M.State} (h : M.step s = .next t) (n : Nat) :
    M.run (n + 1) s = M.run n t := by
  simp only [Host.Core.run, h]

/-- The outcome of the machine's next `n` steps. -/
def State.run (s : State) (n : Nat) : Host.Outcome State Fault Refusal := Host.Core.run Sys2Proof.core n s

theorem run_of_step {s t : State} {c : Instr} {rest : List Instr} (hp : s.pending = c :: rest)
    (h : exec c { s with pending := rest } = .next t) (n : Nat) : s.run (n + 1) = t.run n := by
  refine run_succ_of_step (M := Sys2Proof.core) ?_ n
  show step s = .next t
  rw [step, hp]
  exact h

theorem run_receives {s t : State} {f : Assembly} {c : Instr} {rest : List Instr} (h : exec c (s.receives f rest) = .next t)
    (n : Nat) : (s.receives f (c :: rest)).run (n + 1) = t.run n :=
  run_of_step (s := s.receives f (c :: rest)) rfl h n

/-- R7: a frame whose header is not complete, after these octets. -/
def Assembly.heading (os : List Octet) : Assembly := { octets := os, header := none, check := checkWord os, copyVoid := false }

/-- R7: a frame with its header complete, after these octets. -/
def Assembly.following (h : Header) (os : List Octet) : Assembly :=
  { octets := os, header := some h, check := checkWord (os.take (5 + h.length)), copyVoid := false }

section

variable {s : State} {h : Header} {rest : List Instr}

theorem exec_octet_heading (hlock : s.lineLock = true) {before : List Octet} (hl : before.length < 4) (b : Octet) :
    exec (.dataOctet b) (s.receives (.heading before) rest) = .next (s.receives (.heading (before ++ [b])) rest) := by
  have hshort : (s.receives (.heading before) rest).headerOctet (.heading before) b = _ := headerOctet_of_short hl b
  refine (exec_dataOctet_of_locked (s := s.receives (.heading before) rest) hlock b).trans (congrArg Host.Outcome.next ?_)
  rw [arriveOctet_of_header rfl rfl, hshort]
  simp only [Assembly.heading, checkWord_concat]
  rfl

/-- R7: the octets of a header before it is complete. -/
theorem run_heading (hlock : s.lineLock = true) (os before : List Octet) (hl : before.length + os.length ≤ 4) (n : Nat) :
    (s.receives (.heading before) (os.map .dataOctet ++ rest)).run (os.length + n) =
      (s.receives (.heading (before ++ os)) rest).run n := by
  induction os generalizing before with
  | nil => simp
  | cons b os ih =>
    rw [List.length_cons] at hl ⊢
    rw [List.map_cons, List.cons_append]
    have hstep := exec_octet_heading (rest := os.map .dataOctet ++ rest) hlock (show before.length < 4 by omega) b
    rw [show os.length + 1 + n = os.length + n + 1 by omega, run_receives hstep,
      ih (before ++ [b]) (by rw [List.length_append, List.length_singleton]; omega), List.append_assoc]
    rfl

theorem frameStartNotice_receives (s : State) (f : Assembly) (rest : List Instr) (head : List Octet) :
    (s.receives f rest).frameStartNotice head = (s.frameStartNotice head).receives f rest := by
  rw [State.frameStartNotice, State.frameStartNotice, apply_ite (State.receives · f rest)]
  rfl

theorem handOctet_receives (s : State) (f : Assembly) (rest : List Instr) (b : Octet) :
    (s.receives f rest).handOctet b = (s.handOctet b).receives f rest := by
  rw [State.handOctet, State.handOctet, apply_ite (State.receives · f rest)]
  rfl

theorem handOctet_lineLock (s : State) (b : Octet) : (s.handOctet b).lineLock = s.lineLock := by
  obtain ⟨_, _, hframe⟩ := handOctet_frame s b
  rw [hframe]

theorem frameStartNotice_lineLock (s : State) (head : List Octet) : (s.frameStartNotice head).lineLock = s.lineLock := by
  obtain ⟨_, _, hframe⟩ := frameStartNotice_frame s head
  rw [hframe]

/-- R8, R13: the octet that completes a header. -/
theorem exec_octet_header (hlock : s.lineLock = true) (d n k l1 b : Octet)
    (hh : headerOf s.stationOctet [d, n, k, l1, b] = h) (hl : h.length ≤ 1024) :
    exec (.dataOctet b) (s.receives (.heading [d, n, k, l1]) rest) =
      .next ((if h.disposition = .forward ∨ h.disposition = .consumeAndForward
        then s.frameStartNotice [d, n, k, l1, b] else s).receives (.following h [d, n, k, l1, b]) rest) := by
  have hcomplete := headerOctet_of_complete (s := s.receives (.heading [d, n, k, l1]) rest)
    (f := .heading [d, n, k, l1]) rfl hh hl
  have hfollow : ({ octets := [d, n, k, l1, b], header := some h, check := checkOctet (checkWord [d, n, k, l1]) b
                    copyVoid := false } : Assembly) = .following h [d, n, k, l1, b] := by
    rw [← checkWord_concat, Assembly.following, List.take_of_length_le (by simp)]
    rfl
  refine (exec_dataOctet_of_locked (s := s.receives (.heading [d, n, k, l1]) rest) hlock b).trans
    (congrArg Host.Outcome.next ?_)
  rw [arriveOctet_of_header rfl rfl, hcomplete]
  simp only [Assembly.heading, hfollow, and_true]
  by_cases hf : h.disposition = .forward ∨ h.disposition = .consumeAndForward
  · rw [if_pos hf, if_pos hf]
    exact frameStartNotice_receives s _ rest _
  · rw [if_neg hf, if_neg hf]
    rfl

/-- R7, R13: an octet of a frame once its header is complete. -/
theorem exec_octet_following (hlock : s.lineLock = true) {before : List Octet} (hl : before.length < 7 + h.length)
    (b : Octet) : exec (.dataOctet b) (s.receives (.following h before) rest) =
      .next ((if h.disposition = .forward ∨ h.disposition = .consumeAndForward then s.handOctet b else s).receives
        (.following h (before ++ [b])) rest) := by
  have hbody := bodyOctet_of_room (s := s.receives (.following h before) rest) (f := .following h before) (h := h)
    (by show before.length + 1 < _; omega) b
  have hcheck := check_after_octet (check := checkWord (before.take (5 + h.length))) rfl b
  have hhands : (Assembly.following h before).handsOver = true ↔
      (h.disposition = .forward ∨ h.disposition = .consumeAndForward) := by
    rw [handsOver_iff (h := h) rfl]
    exact and_iff_left rfl
  refine (exec_dataOctet_of_locked (s := s.receives (.following h before) rest) hlock b).trans
    (congrArg Host.Outcome.next ?_)
  rw [arriveOctet_of_body rfl rfl, hbody]
  have hnext : ({ Assembly.following h before with
      octets := before ++ [b]
      check := if before.length + 1 ≤ 5 + h.length then checkOctet (checkWord (before.take (5 + h.length))) b
        else checkWord (before.take (5 + h.length)) } : Assembly) = .following h (before ++ [b]) := by
    rw [hcheck]
    rfl
  by_cases hf : h.disposition = .forward ∨ h.disposition = .consumeAndForward
  · rw [if_pos hf]
    refine (if_pos (hhands.mpr hf)).trans ?_
    rw [← handOctet_receives, ← hnext]
    rfl
  · rw [if_neg hf]
    refine (if_neg (mt hhands.mp hf)).trans ?_
    rw [← hnext]
    rfl

/-- R13, R190, R191: what LTX holds of a frame that is handed over octet by octet. -/
def State.handedOver (s : State) (h : Header) (os : List Octet) : State :=
  if h.disposition = .forward ∨ h.disposition = .consumeAndForward then os.foldl State.handOctet s else s

theorem handedOver_cons (s : State) (h : Header) (b : Octet) (os : List Octet) : s.handedOver h (b :: os) =
    (if h.disposition = .forward ∨ h.disposition = .consumeAndForward then s.handOctet b else s).handedOver h os := by
  unfold State.handedOver
  split <;> rfl

/-- R7, R13: the octets of a frame once its header is complete. -/
theorem run_following (hlock : s.lineLock = true) (os before : List Octet)
    (hl : before.length + os.length ≤ 7 + h.length) (n : Nat) :
    (s.receives (.following h before) (os.map .dataOctet ++ rest)).run (os.length + n) =
      ((s.handedOver h os).receives (.following h (before ++ os)) rest).run n := by
  induction os generalizing before s with
  | nil => simp [State.handedOver]
  | cons b os ih =>
    rw [List.length_cons] at hl ⊢
    rw [List.map_cons, List.cons_append]
    have hlock' : (if h.disposition = .forward ∨ h.disposition = .consumeAndForward then s.handOctet b else s).lineLock =
        true := by
      split
      · rw [handOctet_lineLock, hlock]
      · exact hlock
    have hstep := exec_octet_following (h := h) (rest := os.map .dataOctet ++ rest) hlock
      (show before.length < 7 + h.length by omega) b
    rw [show os.length + 1 + n = os.length + n + 1 by omega, run_receives hstep,
      ih hlock' (before ++ [b]) (by rw [List.length_append, List.length_singleton]; omega), List.append_assoc, handedOver_cons]
    rfl

theorem afterGood_receiving (l : Lrx) (r : Receiver) (h : Header) (p : List Octet) :
    ({ l with receiver := r } : Lrx).afterGood h p = l.afterGood h p := by
  unfold Lrx.afterGood
  split <;> rfl

theorem endNotice_receives (s : State) (f : Assembly) (rest : List Instr) :
    (s.receives f rest).endNotice = s.endNotice.receives f rest := by
  rw [State.endNotice, State.endNotice, apply_ite (State.receives · f rest)]
  rfl

/-- R10, R13: the end of a good frame that has been received whole. -/
theorem exec_end_following (hlock : s.lineLock = true) {os : List Octet} (hl : os.length = 7 + h.length)
    (hcheck : field os (5 + h.length) 2 = (checkWord (os.take (5 + h.length))).toNat) :
    exec .endFrame (s.receives (.following h os) rest) =
      .next { (if h.disposition = .forward ∨ h.disposition = .consumeAndForward then s.endNotice else s) with
        lrx := s.lrx.afterGood h ((os.drop 5).take h.length), pending := rest } := by
  have hhands : (Assembly.following h os).handsOver = true ↔
      (h.disposition = .forward ∨ h.disposition = .consumeAndForward) := by
    rw [handsOver_iff (h := h) rfl]
    exact and_iff_left rfl
  refine (exec_endFrame_of_locked (s := s.receives (.following h os) rest) hlock).trans (congrArg Host.Outcome.next ?_)
  rw [arriveEnd_of_receiving rfl, judgeFrame_of_good _ rfl hl hcheck, goodFrame_eq,
    show (s.receives (.following h os) rest).lrx = { s.lrx with receiver := .receiving (.following h os) } from rfl,
    afterGood_receiving]
  by_cases hf : h.disposition = .forward ∨ h.disposition = .consumeAndForward
  · rw [if_pos hf, if_pos (hhands.mpr hf), endNotice_receives]
    rfl
  · rw [if_neg hf, if_neg (mt hhands.mp hf)]
    rfl

end

/-! ### A frame assembled as LTX assembles frames, arriving whole (R187, R196) -/

/-- R196: the two octets that carry a length. -/
theorem octetsOf_two_length {n : Nat} (h : n < 65536) :
    ∃ l1 l0 : Octet, octetsOf 2 n = [l1, l0] ∧ l1.toNat * 256 + l0.toNat = n := by
  refine ⟨_, _, rfl, ?_⟩
  have hfield := field_octetsOf_last 2 n h
  rw [field_two _ 0 (by rw [octetsOf_length]), Nat.mul_comm] at hfield
  exact hfield

theorem foldl_handOctet_lrx (s : State) (os : List Octet) : (os.foldl State.handOctet s).lrx = s.lrx := by
  induction os generalizing s with
  | nil => rfl
  | cons b os ih => exact (ih _).trans (handOctet_lrx s b)

theorem foldl_handOctet_lineLock (s : State) (os : List Octet) : (os.foldl State.handOctet s).lineLock = s.lineLock := by
  induction os generalizing s with
  | nil => rfl
  | cons b os ih => exact (ih _).trans (handOctet_lineLock s b)

theorem exec_start_of_ready {s : State} (hlock : s.lineLock = true) (hready : s.lrx.receiver = .ready) (rest : List Instr) :
    exec .start { s with pending := rest } = .next (s.receives (.heading []) rest) :=
  (exec_start_of_locked (s := { s with pending := rest }) hlock).trans (congrArg Host.Outcome.next (arriveStart_of_ready hready))

/-- R2, R13, R190, R191: what LTX makes of a frame that is handed over whole. -/
def State.passOn (s : State) (h : Header) (head tail : List Octet) : State :=
  if h.disposition = .forward ∨ h.disposition = .consumeAndForward then
    (tail.foldl State.handOctet (s.frameStartNotice head)).endNotice
  else s

/-- R13: what LTX holds when the whole frame has arrived, and what LRX still holds. -/
theorem handedOver_whole (s : State) (h : Header) (head tail : List Octet) :
    let v := (if h.disposition = .forward ∨ h.disposition = .consumeAndForward then s.frameStartNotice head else s).handedOver
      h tail
    v.lrx = s.lrx ∧ v.lineLock = s.lineLock ∧
      (if h.disposition = .forward ∨ h.disposition = .consumeAndForward then v.endNotice else v) = s.passOn h head tail := by
  unfold State.handedOver State.passOn
  by_cases hf : h.disposition = .forward ∨ h.disposition = .consumeAndForward
  · simp only [if_pos hf, and_true]
    exact ⟨(foldl_handOctet_lrx _ _).trans (frameStartNotice_lrx s head),
      (foldl_handOctet_lineLock _ _).trans (frameStartNotice_lineLock s head)⟩
  · simp only [if_neg hf, and_self]

/-- R2, R3, R187: the header, the payload and the check word of an assembled frame. -/
theorem frameOctets_parts (d n k : Octet) {p : List Octet} (hp : p.length ≤ 1024) : ∃ (l1 l0 : Octet) (tail : List Octet),
    frameOctets d n k p = [d, n, k, l1, l0] ++ tail ∧ l1.toNat * 256 + l0.toNat = p.length ∧ tail.length = p.length + 2 ∧
      tail.take p.length = p ∧ field (frameOctets d n k p) (5 + p.length) 2 =
        (checkWord ((frameOctets d n k p).take (5 + p.length))).toNat := by
  obtain ⟨l1, l0, hoctets, hlength⟩ := octetsOf_two_length (n := p.length) (by omega)
  have hbody : ([d, n, k, l1, l0] ++ p).length = 5 + p.length := by rw [List.length_append, List.length_cons]; rfl
  have hframe : frameOctets d n k p =
      ([d, n, k, l1, l0] ++ p) ++ octetsOf 2 ((checkWord ([d, n, k, l1, l0] ++ p)).toNat : Int) := by
    unfold frameOctets
    rw [hoctets]
    rfl
  refine ⟨l1, l0, p ++ octetsOf 2 ((checkWord ([d, n, k, l1, l0] ++ p)).toNat : Int), ?_, hlength, ?_, List.take_left' rfl, ?_⟩
  · rw [hframe, List.append_assoc]
  · rw [List.length_append, octetsOf_length]
  · rw [hframe, List.take_left' hbody, field_append_right _ _ _ _ hbody.le, hbody, Nat.sub_self]
    exact field_octetsOf_last 2 _ (checkWord _).isLt

/-- R2 to R10: the symbols of a frame, from START to END, leave it judged good. -/
theorem run_frame {s : State} {d n k : Octet} {p : List Octet} {rest : List Instr} (hlock : s.lineLock = true)
    (hready : s.lrx.receiver = .ready) (hp : p.length ≤ 1024)
    (hpending : s.pending = .start :: ((frameOctets d n k p).map .dataOctet ++ .endFrame :: rest)) {h : Header}
    (hh : h = { destination := d, source := n, kind := k, length := p.length, disposition := disposition s.stationOctet d n }) :
    ∃ head tail, head ++ tail = frameOctets d n k p ∧ s.run (p.length + 9) = .next { s.passOn h head tail with
      lrx := s.lrx.afterGood h p, pending := rest } := by
  obtain ⟨l1, l0, tail, hwhole, hlength, htail, hdata, hcheck⟩ := frameOctets_parts d n k hp
  have hheader : headerOf s.stationOctet [d, n, k, l1, l0] = h := by
    rw [headerOf_five, hlength, hh]
    rfl
  have hpayload : h.length = p.length := congrArg Header.length hh
  obtain ⟨hlrx, hlocked, hpassed⟩ := handedOver_whole s h [d, n, k, l1, l0] tail
  rw [hwhole] at hcheck hpending
  rw [← hpayload] at hcheck hdata
  have hend := exec_end_following (h := h) (rest := rest) (hlocked.trans hlock) (os := [d, n, k, l1, l0] ++ tail)
    (by rw [List.length_append, htail, hpayload]; simp; omega) hcheck
  rw [hpassed, hlrx, show ([d, n, k, l1, l0] ++ tail).drop 5 = tail from rfl, hdata] at hend
  refine ⟨[d, n, k, l1, l0], tail, hwhole.symm, ?_⟩
  have hsymbols : ([d, n, k, l1, l0] ++ tail).map Instr.dataOctet ++ .endFrame :: rest = [d, n, k, l1].map .dataOctet ++
      .dataOctet l0 :: (tail.map .dataOctet ++ .endFrame :: rest) := rfl
  rw [hsymbols] at hpending
  have hfirst := run_of_step hpending (exec_start_of_ready hlock hready _) (p.length + 8)
  have hheading := run_heading (s := s) (rest := .dataOctet l0 :: (tail.map .dataOctet ++ .endFrame :: rest)) hlock
    [d, n, k, l1] [] (by simp) (p.length + 4)
  have hfifth := run_receives (exec_octet_header (s := s) (rest := tail.map .dataOctet ++ .endFrame :: rest) hlock d n k l1 l0
    hheader (by omega)) (p.length + 3)
  have hlocked' : (if h.disposition = .forward ∨ h.disposition = .consumeAndForward then
      s.frameStartNotice [d, n, k, l1, l0] else s).lineLock = true := by
    split
    · exact (frameStartNotice_lineLock _ _).trans hlock
    · exact hlock
  have hfollowing := run_following (h := h) (rest := .endFrame :: rest) hlocked' tail [d, n, k, l1, l0]
    (by rw [htail, hpayload]; simp; omega) 1
  have hlast := run_receives hend 0
  rw [show [d, n, k, l1].length + (p.length + 4) = p.length + 8 by simp; omega] at hheading
  rw [htail] at hfollowing
  exact hfirst.trans (hheading.trans (hfifth.trans (hfollowing.trans hlast)))

/-! ### The copy of a whole frame (R190, R191) -/

theorem foldl_handOctet_of_cutThrough {s : State} (h : s.ltx.lane = .cutThrough) (os : List Octet) :
    os.foldl State.handOctet s = { s with outbound := s.outbound ++ os.map .octet } := by
  induction os generalizing s with
  | nil => simp
  | cons b os ih =>
    rw [List.foldl_cons, handOctet_of_cutThrough h, ih (s := { s with outbound := s.outbound ++ [.octet b] }) h, List.append_assoc]
    rfl

theorem foldl_handOctet_of_stored {s : State} (h : s.ltx.lane ≠ .cutThrough) {f : List Octet} (hf : s.ltx.store = some f)
    (os : List Octet) : os.foldl State.handOctet s = { s with ltx := { s.ltx with store := some (f ++ os) } } := by
  induction os generalizing s f with
  | nil =>
    rw [List.append_nil, ← hf]
    rfl
  | cons b os ih =>
    rw [List.foldl_cons, handOctet_of_stored h hf,
      ih (s := { s with ltx := { s.ltx with store := some (f ++ [b]) } }) h rfl, List.append_assoc]
    rfl

section

variable {s : State} {h : Header} {head tail : List Octet} (hf : h.disposition = .consumeAndForward)

include hf

/-- R190: a frame that cuts through goes out as it comes in. -/
theorem passOn_of_cutsThrough (hc : s.ltx.cutsThrough = true) : s.passOn h head tail =
    { s with outbound := s.outbound ++ .start :: ((head ++ tail).map .octet ++ [.endFrame]) } := by
  obtain ⟨hidle, _⟩ := (cutsThrough_iff s.ltx).mp hc
  rw [State.passOn, if_pos (.inr hf), frameStartNotice_of_cutsThrough hc, foldl_handOctet_of_cutThrough rfl,
    endNotice_of_cutThrough rfl]
  simp only [List.map_append, List.append_assoc, List.cons_append, ← hidle]

/-- R191: a frame that is stored joins the forward queue when it is whole, or is dropped at a full one. -/
theorem passOn_of_stored (hc : ¬s.ltx.cutsThrough = true) (hlane : s.ltx.lane ≠ .cutThrough) : s.passOn h head tail =
    { s with ltx := ({ s.ltx with store := some (head ++ tail) } : Ltx).queueStored } := by
  rw [State.passOn, if_pos (.inr hf), frameStartNotice_of_not_cutsThrough hc,
    foldl_handOctet_of_stored (s := { s with ltx := { s.ltx with store := some head } }) hlane rfl tail,
    endNotice_of_stored (s := { s with ltx := { s.ltx with store := some (head ++ tail) } }) hlane]

theorem passOn_of_room (hc : ¬s.ltx.cutsThrough = true) (hlane : s.ltx.lane ≠ .cutThrough) (hroom : s.ltx.forward.length < 4) :
    s.passOn h head tail = { s with
      ltx := { s.ltx with forward := s.ltx.forward ++ [head ++ tail], store := none } } :=
  (passOn_of_stored hf hc hlane).trans (congrArg (fun l : Ltx => { s with ltx := l })
    (queueStored_of_room (l := { s.ltx with store := some (head ++ tail) }) rfl hroom))

theorem passOn_of_full (hc : ¬s.ltx.cutsThrough = true) (hlane : s.ltx.lane ≠ .cutThrough) (hfull : 4 ≤ s.ltx.forward.length) :
    s.passOn h head tail = { s with
      ltx := { s.ltx with forwardsDropped := min (s.ltx.forwardsDropped + 1) 65535, store := none } } :=
  (passOn_of_stored hf hc hlane).trans (congrArg (fun l : Ltx => { s with ltx := l })
    (queueStored_of_full (l := { s.ltx with store := some (head ++ tail) }) rfl hfull))

end

/-- R1: no station address is the broadcast address. -/
theorem stationOctet_ne_broadcast (s : State) : s.stationOctet ≠ 255 := fun h => by
  have hval : s.station.toNat % 256 = 255 := by
    simpa [State.stationOctet] using congrArg BitVec.toNat h
  have := s.station.isLt
  omega

/-- R10, R15, R18: what LRX holds once a COMMAND frame has ended good. -/
theorem afterGood_command {l : Lrx} (hready : l.receiver = .ready) (hroom : l.commands.length < 4) {h : Header}
    (hd : h.disposition = .consume ∨ h.disposition = .consumeAndForward) (hk : h.kind = 0x32) (p : List Octet) :
    l.afterGood h p = { l with
      commands := l.commands ++ [{ source := h.source, broadcast := decide (h.destination = 255), payload := p }]
      counters := { l.counters with goodFrames := min (l.counters.goodFrames + 1) 65535 } } := by
  rw [afterGood_of_consumed l hd, Lrx.move_ready_of_ready hready, consume_command _ p hk]
  exact takeCommand_of_room _ hroom

end Sys2Proof.Machine

/-! The statement about a COMMAND frame received whole. -/

namespace Sys2Proof.Proofs

open Sys2Proof Sys2Proof.Machine

/-- Settles O12: the run of a frame's symbols, judged good, with its disposition by the address it carries. -/
theorem assembledCommandFrameIsReceivedWhole : Obligations.AssembledCommandFrameIsReceivedWhole := by
  unfold Obligations.AssembledCommandFrameIsReceivedWhole
  intro s source payload rest hlock hready hroom hlength arriving received frame cutsThrough
  refine ⟨fun hpending => ?_, fun hpending hsource hlane => ?_⟩
  · obtain ⟨head, tail, _, hrun⟩ := run_frame hlock hready hlength hpending rfl
    have hd : disposition s.stationOctet s.stationOctet source = .consume := if_pos rfl
    rw [afterGood_command hready hroom (.inl hd) rfl, decide_eq_false (stationOctet_ne_broadcast s)] at hrun
    refine hrun.trans ?_
    rw [State.passOn, if_neg (by rw [hd]; simp)]
    rfl
  · obtain ⟨head, tail, hwhole, hrun⟩ := run_frame hlock hready hlength hpending rfl
    have hd : disposition s.stationOctet 255 source = .consumeAndForward :=
      (if_neg (stationOctet_ne_broadcast s).symm).trans ((if_neg hsource).trans (if_pos rfl))
    rw [afterGood_command hready hroom (.inr hd) rfl] at hrun
    refine ⟨fun hcuts => hrun.trans ?_, fun hstores hforward => hrun.trans ?_, fun hstores hfull => hrun.trans ?_⟩
    · rw [passOn_of_cutsThrough hd ((cutsThrough_iff s.ltx).mpr hcuts), hwhole]
      rfl
    · rw [passOn_of_room hd (mt (cutsThrough_iff s.ltx).mp hstores) hlane hforward, hwhole]
      rfl
    · rw [passOn_of_full hd (mt (cutsThrough_iff s.ltx).mp hstores) hlane hfull]
      rfl

end Sys2Proof.Proofs


/-! SUPPORT. The configuration record, the stream settings, IDENTIFY and READ STATUS (R33, R35, R38, R39). -/

namespace Sys2Proof.Machine

/-! ### The configuration record (R33, R35) -/

section

variable {c : ConfigRecord} {band : Nat}

/-- R33: the fields of SET CONFIG are read as they were written. -/
theorem field_configArguments (hc : c.Carried) (hb : band < 256) :
    field (configArguments c band) 0 2 = c.spacingMm ∧ field (configArguments c band) 2 2 = c.pulseUm ∧
    field (configArguments c band) 4 1 = c.speedBeta ∧ field (configArguments c band) 5 2 = c.minSpeed ∧
    field (configArguments c band) 7 2 = c.silenceMs ∧ field (configArguments c band) 9 1 = c.alignDelay ∧
    field (configArguments c band) 10 1 = band ∧ field (configArguments c band) 11 1 = c.pointLen ∧
    field (configArguments c band) 12 1 = c.cyclicCount ∧ field (configArguments c band) 13 4 = c.pitchMinMm ∧
    field (configArguments c band) 17 4 = c.pitchMaxMm ∧ field (configArguments c band) 21 2 = c.pitchTolMm ∧
    field (configArguments c band) 23 2 = c.segmentM ∧ field (configArguments c band) 25 1 = c.reportDest.toNat := by
  obtain ⟨⟨hbeta, halign, hpoint, hcyclic⟩, ⟨hspacing, hpulse, hspeed, hsilence, htol, hsegment⟩, hmin, hmax⟩ := hc
  simp [configArguments, List.append_assoc, field_append_right, field_octetsOf, field_cons_zero_one, *]

theorem configArguments_length (c : ConfigRecord) (band : Nat) : (configArguments c band).length = 26 := by
  simp [configArguments]

/-- R33: the record SET CONFIG carries. -/
theorem configRecord?_configArguments (hc : c.Carried) (hb : band < 256) : configRecord? (configArguments c band) =
    if h : band < 5 then if c.inRange then some { c with defaultBand := ⟨band, h⟩ } else none else none := by
  obtain ⟨h1, h2, h3, h4, h5, h6, h7, h8, h9, h10, h11, h12, h13, h14⟩ := field_configArguments hc hb
  unfold configRecord?
  simp only [h1, h2, h3, h4, h5, h6, h7, h8, h9, h10, h11, h12, h13, h14, BitVec.ofNat_toNat, BitVec.setWidth_eq]
  rfl

theorem configRecord?_of_bad (hc : c.Carried) (hb : band < 256) (hbad : ¬(c.InRange ∧ band < 5)) :
    configRecord? (configArguments c band) = none := by
  rw [configRecord?_configArguments hc hb]
  split
  · next h => exact if_neg fun hr => hbad ⟨c.inRange_iff.mp hr, h⟩
  · rfl

theorem configRecord?_of_good (hc : c.Carried) (hb : band < 256) (hr : c.InRange) (h : band < 5) :
    configRecord? (configArguments c band) = some { c with defaultBand := ⟨band, h⟩ } := by
  rw [configRecord?_configArguments hc hb, dif_pos h, if_pos (c.inRange_iff.mpr hr)]

/-- R33: the cross-check against the measure table, over the two kinds that have a length. -/
theorem halfLength_le_iff (e : MeasureEntry) (n : Nat) :
    e.halfLength ≤ n ↔ ∀ (p : Fin 10) (l : Nat), e = .chord p l ∨ e = .twist p l → l / 2 ≤ n := by
  cases e with
  | chord p l | twist p l =>
    refine ⟨fun h q k hk => ?_, fun h => h p l (by simp)⟩
    simp only [MeasureEntry.chord.injEq, MeasureEntry.twist.injEq, reduceCtorEq, or_false, false_or] at hk
    obtain ⟨_, rfl⟩ := hk
    exact h
  | _ => exact iff_of_true (Nat.zero_le n) fun p l h => by simp at h

theorem crossChecks_iff_kinds (c : ConfigRecord) (measures : Vector MeasureEntry 16) : c.crossChecks measures = true ↔
    (∀ (m : Fin 16) (p : Fin 10) (l : Nat), measures[m] = .chord p l ∨ measures[m] = .twist p l → l / 2 ≤ c.alignDelay) ∧
      c.pitchMinMm ≤ c.pitchMaxMm := by
  rw [ConfigRecord.crossChecks_iff]
  exact and_congr_left' (forall_congr' fun m => halfLength_le_iff _ _)

theorem setConfig_of_no_record {e : CommandEntry} {s : State} (h : configRecord? e.args = none) :
    setConfig e s = (s, .refuse .badArg) := by
  rw [setConfig, h]

theorem setConfig_of_table {e : CommandEntry} {s : State} (h : configRecord? e.args = some c)
    (hc : c.crossChecks s.mse.measures = false) : setConfig e s = (s, .refuse .badTable) := by
  rw [setConfig, h]
  exact if_neg (ne_true_of_eq_false hc)

theorem setConfig_of_record {e : CommandEntry} {s : State} (h : configRecord? e.args = some c)
    (hc : c.crossChecks s.mse.measures = true) :
    setConfig e s = ({ s with cmu := { s.cmu with config := c } }, .done []) := by
  rw [setConfig, h]
  exact if_pos hc

theorem crossChecks_defaultBand (c : ConfigRecord) (b : Fin 5) (measures : Vector MeasureEntry 16) :
    ({ c with defaultBand := b } : ConfigRecord).crossChecks measures = c.crossChecks measures := rfl

end

/-! ### SET STREAM (R35) -/

theorem setStream_of_size {e : CommandEntry} {s : State} {mask : Half} {size : Nat}
    (hmask : BitVec.ofNat 16 (field e.args 0 2) = mask) (hsize : field e.args 2 1 = size) : setStream e s =
      if 1 ≤ size ∧ size ≤ 16 then
        ({ s with
          cmu := { s.cmu with streamMask := mask, blockSize := size }
          ltx := if mask = s.cmu.streamMask ∧ size = s.cmu.blockSize then s.ltx else s.ltx.closeBlock }, .done [])
      else (s, .refuse .badArg) := by
  subst hmask hsize
  unfold setStream
  dsimp only
  split
  · split <;> rfl
  · rfl

/-! ### IDENTIFY and READ STATUS (R38, R39) -/

theorem runStateCodes_eq (r : RunState) : runStateCodes r = [r.octet, r.causeOctet] := by
  rcases r with _ | _ | ⟨⟨⟩⟩ <;> rfl

theorem octetsOf_station (s : State) : octetsOf 1 (s.station.toNat : Int) = [s.stationOctet] := by
  have hval : s.stationOctet.toNat = s.station.toNat := by
    have := s.station.isLt
    rw [State.stationOctet, BitVec.toNat_setWidth]
    omega
  rw [← hval, octetsOf_one]

theorem identity_eq (s : State) : s.identity =
    octetsOf 2 83 ++ octetsOf 2 620 ++ octetsOf 1 1 ++ octetsOf 1 s.station.toNat ++ runStateCodes s.cmu.runState := by
  rw [runStateCodes_eq, octetsOf_station]
  rfl

theorem yesNo_zeroInProgress (c : Cal) : yesNo c.zeroInProgress = if c.zero = .idle then 0 else 1 := by
  unfold yesNo Cal.zeroInProgress
  by_cases h : c.zero = .idle <;> simp [h]

/-- R101: an absent cursor is reported as 65,535. -/
theorem cursor_octets (cursor : Option Nat) : octetsOf 2 (cursor.getD 65535 : Nat) =
    octetsOf 2 (match cursor with | some k => (k : Int) | none => 65535) := by
  cases cursor <;> rfl

/-- R39: the items of READ STATUS, one after the other. -/
theorem statusOctets_eq (s : State) (h : s.cmu.resetPending = none) : s.statusOctets =
    runStateCodes s.cmu.runState ++ [(0 : Octet)] ++ octetsOf 2 s.cmu.commandsDiscarded ++ [s.lrx.receiver.octet] ++
      [yesNo s.lrx.linkUp] ++ s.lrx.counters.octets ++ octetsOf 2 s.ltx.forwardsDropped ++
      octetsOf 4 (s.odo.d / 1000 : Nat) ++ octetsOf 4 (s.odo.r / 1000 : Nat) ++ octetsOf 4 s.odo.s.toNat ++
      octetsOf 2 s.odo.vf ++ [yesNo s.odo.lowSpeed] ++ [yesNo s.odo.silenceFlag] ++ [yesNo s.loc.located] ++
      octetsOf 1 s.loc.epoch.toNat ++ octetsOf 4 s.loc.offset ++ octetsOf 2 s.loc.sections.length ++
      octetsOf 2 (match s.loc.cursor with | some k => (k : Int) | none => 65535) ++ octetsOf 2 s.loc.marks.length ++
      octetsOf 2 (s.ext.countIn .free) ++ octetsOf 2 (s.ext.countIn .opened) ++ octetsOf 2 (s.ext.countIn .posted) ++
      [yesNo s.stu.frozen] ++ [(if s.cal.zero = .idle then 0 else 1 : Octet)] := by
  rw [runStateCodes_eq, ← yesNo_zeroInProgress, ← cursor_octets]
  unfold State.statusOctets Cmu.statusOctets Lrx.statusOctets Odo.statusOctets Loc.statusOctets Ext.statusOctets
  rw [h]
  simp only [List.append_assoc, List.cons_append, List.nil_append]
  rfl

theorem readStatus_of_option {e : CommandEntry} {s : State} {clear : Bool} (h : yesNo? (field e.args 0 1) = some clear) :
    readStatus e s = (if clear then s.clearCounters else s, .done s.statusOctets) := by
  rw [readStatus, h]

theorem readStatus_of_no_option {e : CommandEntry} {s : State} (h : yesNo? (field e.args 0 1) = none) :
    readStatus e s = (s, .refuse .badArg) := by
  rw [readStatus, h]

end Sys2Proof.Machine

/-! The statements about the settings and the status. -/

namespace Sys2Proof.Proofs

open Sys2Proof Sys2Proof.Machine

/-- Settles O16: each reports what its block holds, field by field; the clear option is the first argument. -/
theorem identifyReadConfigAndReadStatusReport : Obligations.IdentifyReadConfigAndReadStatusReport := by
  unfold Obligations.IdentifyReadConfigAndReadStatusReport
  refine ⟨fun s source tag rest => ⟨fun h => ?_, fun h => ?_⟩, fun s source clear tag rest h => ?_⟩
  · rw [← identity_eq]
    exact h.exec_addressed (row := .identify) rfl nofun rfl rfl trivial (r := .done s.identity) rfl
  · exact h.exec_addressed (row := .readConfig) rfl nofun rfl rfl trivial (r := .done s.cmu.config.octets) rfl
  · intro report
    have hreport : (s.taken rest).statusOctets = report := by
      rw [statusOctets_eq (s.taken rest) h.noReset]
      simp only [LinkCounters.octets, List.append_assoc, report]
      rfl
    have hfield : field (commandEntry source false 0x02 tag [clear]).args 0 1 = clear.toNat := by
      rw [commandEntry_args, field_cons_zero_one]
    refine ⟨fun hno => ?_, fun hyes => ?_, fun hno hyes => ?_⟩
    · subst hno
      refine h.exec_addressed (row := .readStatus) rfl nofun rfl rfl trivial (r := .done report) ?_
      rw [← hreport]
      exact readStatus_of_option (clear := false) (congrArg yesNo? hfield)
    · subst hyes
      refine ⟨_, h.exec_addressed (row := .readStatus) rfl nofun rfl rfl trivial (r := .done report) ?_, rfl⟩
      rw [← hreport]
      exact readStatus_of_option (clear := true) (congrArg yesNo? hfield)
    · refine h.exec_addressed (row := .readStatus) rfl nofun rfl rfl trivial (r := .refuse .badArg) ?_
      refine readStatus_of_no_option ((congrArg yesNo? hfield).trans (yesNo?_of_le ?_))
      by_contra hlt
      obtain h0 | h1 : clear.toNat = 0 ∨ clear.toNat = 1 := by omega
      · exact hno (BitVec.eq_of_toNat_eq h0)
      · exact hyes (BitVec.eq_of_toNat_eq h1)

/-- Settles O17: the record carried, its ranges, then the cross-checks. -/
theorem setConfigChecksThenReplacesTheRecord : Obligations.SetConfigChecksThenReplacesTheRecord := by
  unfold Obligations.SetConfigChecksThenReplacesTheRecord
  intro s source tag rest c band h hstop hc hb crossChecks
  have hargs := commandEntry_args source false 0x20 tag (configArguments c band)
  refine ⟨fun hbad => ?_, fun hr hband hcross => ?_, fun hr hcross hband => ?_⟩
  · refine h.exec_addressed (row := .setConfig) rfl nofun rfl (configArguments_length c band) hstop (r := .refuse .badArg) ?_
    exact setConfig_of_no_record ((congrArg configRecord? hargs).trans (configRecord?_of_bad hc hb hbad))
  · refine h.exec_addressed (row := .setConfig) rfl nofun rfl (configArguments_length c band) hstop (r := .refuse .badTable) ?_
    refine setConfig_of_table ((congrArg configRecord? hargs).trans (configRecord?_of_good hc hb hr hband)) ?_
    rw [crossChecks_defaultBand]
    exact Bool.eq_false_iff.mpr (mt (crossChecks_iff_kinds c s.mse.measures).mp hcross)
  · have hrecord := (congrArg configRecord? hargs).trans (configRecord?_of_good hc hb hr hband)
    have hcross' : ({ c with defaultBand := ⟨band, hband⟩ } : ConfigRecord).crossChecks (s.taken rest).mse.measures = true :=
      (crossChecks_iff_kinds c s.mse.measures).mpr hcross
    have hact := setConfig_of_record (s := s.taken rest) hrecord hcross'
    exact h.exec_addressed (row := .setConfig) rfl nofun rfl (configArguments_length c band) hstop hact

/-- Settles O18: the two fields of SET STREAM, and the block closed when either changes. -/
theorem setStreamReplacesTheSettings : Obligations.SetStreamReplacesTheSettings := by
  unfold Obligations.SetStreamReplacesTheSettings
  intro s source tag mask size rest hsize h
  have hargs := commandEntry_args source false 0x22 tag (octetsOf 2 mask.toNat ++ octetsOf 1 size)
  have hmask : BitVec.ofNat 16 (field (octetsOf 2 mask.toNat ++ octetsOf 1 size) 0 2) = mask := by
    rw [field_octetsOf 2 _ _ mask.isLt, BitVec.ofNat_toNat, BitVec.setWidth_eq]
  have hblock : field (octetsOf 2 mask.toNat ++ octetsOf 1 size) 2 1 = size := by
    rw [field_append_right _ _ _ _ (octetsOf_length _ _).le, octetsOf_length]
    exact field_octetsOf_last 1 size hsize
  rw [← hargs] at hmask hblock
  have hact := setStream_of_size (s := s.taken rest) hmask hblock
  refine ⟨fun hbad => ?_, fun hlow hhigh => ?_⟩
  · refine h.exec_addressed (row := .setStream) rfl nofun rfl rfl trivial (r := .refuse .badArg) (hact.trans (if_neg ?_))
    omega
  · exact h.exec_addressed (row := .setStream) rfl nofun rfl rfl trivial (r := .done [])
      (hact.trans (if_pos ⟨hlow, hhigh⟩))

end Sys2Proof.Proofs


/-! SUPPORT. START, RESUME, STOP, SUSPEND and the reverse-limit request, block by block (R28 to R32), and the work of another run
or outside MEASURING, which every stage discards (R24). -/

namespace Sys2Proof.Machine

/-! ### A command of run control, addressed or broadcast (R26, R27) -/

theorem State.CanTake.exec_done {s t : State} {source code : Octet} {broadcast : Bool} {tag : Half}
    {rest : List CommandEntry} {row : Instr} {results : List Octet}
    (h : s.CanTake (commandEntry source broadcast code tag []) rest)
    (hp : isPlainCommand row = true) (hstart : row ≠ .startCommand) (hn : commandCode? code = some (row, 0))
    (hb : broadcastExecuted row = true) (ha : acceptedIn row s.cmu.runState)
    (hact : actOf row (commandEntry source broadcast code tag []) (s.taken rest) = (t, .done results)) :
    exec row s = .next (t.answeredOk broadcast source code tag results) := by
  rw [exec_plain hp, if_neg hstart, h.run (commandEntry_row hn fun _ => hb) hn rfl ((acceptedBy_iff hp _).mpr ha), hact]
  exact congrArg Host.Outcome.next (answer_done t ..)

/-! ### Loss of location (R95) -/

/-- R95, R97: LTX once the rollback has cost the location, or has not. -/
def State.lossQueued (s : State) : Ltx :=
  if 0 < s.odo.r then
    s.ltx.offerLocation { kind := .locationLost s.loc.located, measured := (s.odo.d / 1000 : Nat)
                          offset := s.loc.offset, epoch := s.loc.epoch, located := false, lost := 0 }
  else s.ltx

theorem loseLocationIfRolledBack_eq (s : State) : s.loseLocationIfRolledBack = { s with
    loc := if 0 < s.odo.r then { s.loc with located := false, cursor := none } else s.loc
    ltx := s.lossQueued } := by
  unfold State.loseLocationIfRolledBack State.lossQueued
  split <;> rfl

theorem lossQueued_buffers (s : State) : s.lossQueued.buffers = s.ltx.buffers := by
  unfold State.lossQueued
  split
  · obtain ⟨_, _, h⟩ := offerLocation_frame s.ltx
      { kind := .locationLost s.loc.located, measured := (s.odo.d / 1000 : Nat)
        offset := s.loc.offset, epoch := s.loc.epoch, located := false, lost := 0 }
    rw [h]
  · rfl

theorem lossQueued_startNotice (s : State) : s.lossQueued.startNotice = { s.lossQueued with
    buffers := Vector.ofFn fun i : Fin 2 => (s.ltx.buffers[i]).dropOpen
    gapMark := false } := by
  rw [Ltx.startNotice, lossQueued_buffers]

/-! ### The notices (R28, R29, R30) -/

/-- R28: what START does at every block but CAL. -/
theorem startRun_eq (s : State) : s.startRun = { s with
    cmu := { s.cmu with runState := .measuring, runNumber := s.cmu.runNumber + 1 }
    odo := { s.odo with r := 0, n := s.odo.d + 1000 * s.cmu.config.spacingMm, s := 0, gapPending := false }
    loc := if 0 < s.odo.r then { s.loc with located := false, cursor := none } else s.loc
    mse := { s.mse with
      history := Vector.replicate 128 none, newest := none, baselines := Vector.replicate 16 none }
    exd := { s.exd with detectors := Vector.ofFn fun m : Fin 16 =>
      if (s.exd.detectors[m]).mode = DetectorMode.disabled then s.exd.detectors[m] else .cleared .quiet }
    ext := { s.ext with rings := Vector.replicate 16 [], openCount := 0, openRow := none }
    stu := { s.stu with
      accumulators := Vector.replicate 8 .zero, edges := Vector.replicate 8 false, segment := none, openAfterStart := true }
    ltx := { s.lossQueued with
      buffers := Vector.ofFn fun i : Fin 2 => (s.ltx.buffers[i]).dropOpen
      gapMark := false } } := by
  rw [← lossQueued_startNotice]
  unfold State.startRun State.startOdometry
  dsimp only
  rw [loseLocationIfRolledBack_eq]
  rfl

/-- R32: what RESUME does. -/
theorem resume_eq (e : CommandEntry) (s : State) : resume e s = ({ s with
    cmu := { s.cmu with runState := .measuring, runNumber := s.cmu.runNumber + 1 }
    odo := { s.odo with r := 0, gapPending := true }
    loc := if 0 < s.odo.r then { s.loc with located := false, cursor := none } else s.loc
    ltx := s.lossQueued }, .done []) := by
  unfold resume State.resumeOdometry
  rw [loseLocationIfRolledBack_eq]
  rfl

/-- R148, R165: what a notice that ends every exceedance does at EXD and EXT. -/
theorem endExceedances_eq (s : State) : s.endExceedances = { s with
    exd := { s.exd with detectors := Vector.ofFn fun m : Fin 16 =>
      if (s.exd.detectors[m]).mode = DetectorMode.disabled then s.exd.detectors[m] else .cleared .quiet }
    ext := s.ext.truncate s.cmu.config } := rfl

/-- R29, R175: STU and LTX once the segment in progress has been closed. -/
theorem stopSegment_eq (s : State) : s.stopSegment = { s with
    stu := { s.stu with segment := none }
    ltx := match s.stu.segment with
      | none => s.ltx
      | some g => s.ltx.offerSegment (s.stu.segmentRecord { g with truncated := true }) } := by
  unfold State.stopSegment Stu.stopNotice
  cases hg : s.stu.segment with
  | none =>
    dsimp only
    rw [placeSegment_eq, ← hg]
    rfl
  | some g =>
    dsimp only
    rw [placeSegment_eq]
    rfl

theorem stop_of_stopped {e : CommandEntry} {s : State} (h : s.cmu.runState = .stopped) : stop e s = (s, .done []) :=
  congrArg (·, Reply.done []) (if_pos h)

/-- R29: what STOP does outside STOPPED. -/
theorem stop_of_running {e : CommandEntry} {s : State} (h : s.cmu.runState ≠ .stopped) : stop e s = ({ s with
    cmu := { s.cmu with runState := .stopped }
    exd := { s.exd with detectors := Vector.ofFn fun m : Fin 16 =>
      if (s.exd.detectors[m]).mode = DetectorMode.disabled then s.exd.detectors[m] else .cleared .quiet }
    ext := s.ext.truncate s.cmu.config
    stu := { s.stu with segment := none }
    ltx := (match s.stu.segment with
      | none => s.ltx
      | some g => s.ltx.offerSegment (s.stu.segmentRecord { g with truncated := true })).closeBlock }, .done []) := by
  refine congrArg (·, Reply.done []) ((if_neg h).trans ?_)
  rw [State.stopNotice, stopSegment_eq, endExceedances_eq]
  rfl

/-- R30, R31: what entering SUSPENDED does. -/
theorem suspendRun_eq (s : State) (cause : SuspendCause) : s.suspendRun cause = { s with
    cmu := { s.cmu with runState := .suspended cause }
    exd := { s.exd with detectors := Vector.ofFn fun m : Fin 16 =>
      if (s.exd.detectors[m]).mode = DetectorMode.disabled then s.exd.detectors[m] else .cleared .quiet }
    ext := s.ext.truncate s.cmu.config
    ltx := s.ltx.closeBlock } := rfl

section

variable {s : State} {run : BitVec 8}

theorem takeReverseRequest_of_force (h : s.links.reverseRequest = some run) (hk : s.keeps run = true) :
    s.takeReverseRequest =
      ((s.withLinks { s.links with reverseRequest := none }).suspendRun .reverse).reverseSuspendRecord := by
  simp only [State.takeReverseRequest, h, hk, if_true]

theorem takeReverseRequest_of_void (h : s.links.reverseRequest = some run) (hk : s.keeps run = false) :
    s.takeReverseRequest = s.withLinks { s.links with reverseRequest := none } := by
  simp only [State.takeReverseRequest, h, hk, Bool.false_eq_true, if_false]

end

end Sys2Proof.Machine

/-! The statements about run control. -/

namespace Sys2Proof.Proofs

open Sys2Proof Sys2Proof.Machine

/-- Settles O19: the notices of START and of RESUME, block by block. -/
theorem startAndResumeEnterMeasuring : Obligations.StartAndResumeEnterMeasuring := by
  unfold Obligations.StartAndResumeEnterMeasuring
  refine ⟨fun s source broadcast tag rest h hstop hz => ?_, fun s source broadcast tag rest cause h hsusp => ?_⟩
  · intro queued
    rw [h.exec_start_of_idle hstop hz, State.started, startRun_eq]
    rfl
  · exact h.exec_done (row := .resume) rfl nofun rfl rfl ⟨cause, hsusp⟩
      (resume_eq (commandEntry source broadcast 0x13 tag []) (s.taken rest))

/-- Settles O20: the notices of STOP and of a suspension, and the request that is in force or void. -/
theorem stopAndSuspensionsEndTheOpenExceedances : Obligations.StopAndSuspensionsEndTheOpenExceedances := by
  unfold Obligations.StopAndSuspensionsEndTheOpenExceedances
  refine ⟨fun s source broadcast tag rest h => ⟨fun hstop => ?_, fun hrun => ?_⟩,
    fun s source broadcast tag rest h hm => ?_, fun s run hreq => ⟨fun hm hrun => ?_, fun hvoid => ?_⟩⟩
  · exact h.exec_done (row := .stop) rfl nofun rfl rfl trivial
      (stop_of_stopped (e := commandEntry source broadcast 0x11 tag []) hstop)
  · exact h.exec_done (row := .stop) rfl nofun rfl rfl trivial
      (stop_of_running (e := commandEntry source broadcast 0x11 tag []) hrun)
  · exact h.exec_done (row := .suspend) rfl nofun rfl rfl hm (congrArg (·, Reply.done []) (suspendRun_eq _ _))
  · exact congrArg Host.Outcome.next (takeReverseRequest_of_force hreq ((keeps_iff s run).mpr ⟨hm, hrun⟩))
  · exact congrArg Host.Outcome.next
      (takeReverseRequest_of_void hreq (Bool.eq_false_iff.mpr (mt (keeps_iff s run).mp hvoid)))

end Sys2Proof.Proofs


/-! SUPPORT. The work of another run or outside MEASURING, which every stage discards (R24); and a row at EXD and EXT, whose notices
only add to the queues (R134, R148, R153 to R165). -/

namespace Sys2Proof.Machine

/-! ### Stale work at every stage (R24) -/

section

variable {s : State} {run : BitVec 8} (hk : s.keeps run = false)

include hk

theorem locSample_of_stale {x : Sample} {rest : List OdoItem} (hl : s.links.odoToLoc = .sample x :: rest)
    (hroom : s.links.locToMse = none) (hx : x.run = run) :
    s.locSample = { s with links := { s.links with odoToLoc := rest } } := by
  subst hx
  simp [State.locSample, State.locItem, hroom, hl, hk, State.dropLocItem, State.withLinks]

theorem locGap_of_stale {rest : List OdoItem} (hl : s.links.odoToLoc = .gap run :: rest) (hroom : s.links.locToMse = none) :
    s.locGap = { s with links := { s.links with odoToLoc := rest } } := by
  simp [State.locGap, State.locItem, hroom, hl, hk, State.dropLocItem, State.withLinks]

theorem sampleEvent_of_stale {y : LocatedSample} (hl : s.links.locToMse = some (.sample y)) (hroom : s.links.rowsTaken = true)
    (hy : y.sample.run = run) : s.sampleEvent = { s with links := { s.links with locToMse := none } } := by
  subst hy
  simp [State.sampleEvent, State.mseItem, hroom, hl, hk, Links.takenByMse, State.withLinks]

theorem gapEvent_of_stale (hl : s.links.locToMse = some (.gap run)) (hroom : s.links.rowsTaken = true) :
    s.gapEvent = { s with links := { s.links with locToMse := none } } := by
  simp [State.gapEvent, State.mseItem, hroom, hl, hk, Links.takenByMse, State.withLinks]

theorem rowEvent_of_stale {x : Row} {rest : List RowItem} (hl : s.links.mseToExd = .row x :: rest) (hx : x.run = run) :
    s.rowEvent = { s with links := { s.links with mseToExd := rest } } := by
  subst hx
  simp [State.rowEvent, hl, hk, Links.takenByExd, State.withLinks]

theorem exdGap_of_stale {rest : List RowItem} (hl : s.links.mseToExd = .gap run :: rest) :
    s.exdGap = { s with links := { s.links with mseToExd := rest } } := by
  simp [State.exdGap, hl, hk, Links.takenByExd, State.withLinks]

theorem stuRow_of_stale {x : Row} {rest : List RowItem} (hl : s.links.mseToStu = .row x :: rest) (hx : x.run = run) :
    s.stuRow = { s with links := { s.links with mseToStu := rest } } := by
  subst hx
  simp [State.stuRow, State.stuReady, hl, hk, Links.takenByStu, State.withLinks]

theorem stuGap_of_stale {rest : List RowItem} (hl : s.links.mseToStu = .gap run :: rest) :
    s.stuGap = { s with links := { s.links with mseToStu := rest } } := by
  simp [State.stuGap, hl, hk, Links.takenByStu, State.withLinks]

theorem ltxRow_of_stale {x : Row} {rest : List RowItem} (hl : s.links.mseToLtx = .row x :: rest) (hx : x.run = run) :
    s.ltxRow = { s with links := { s.links with mseToLtx := rest } } := by
  subst hx
  simp [State.ltxRow, hl, hk, Links.takenByLtx, State.withLinks]

theorem ltxGap_of_stale {rest : List RowItem} (hl : s.links.mseToLtx = .gap run :: rest) :
    s.ltxGap = { s with links := { s.links with mseToLtx := rest } } := by
  simp [State.ltxGap, hl, hk, Links.takenByLtx, State.withLinks]

end

/-! ### What the notices of a row add (R155, R157, R160) -/

/-- R155, R157, R160: alerts join at the tail while there is room, contexts are posted at the tail, and free ones are taken from
the head. -/
structure Tracker.Extends (t u : Tracker) : Prop where
  alerts : ∃ added, u.alerts = t.alerts ++ added ∧ (added ≠ [] → u.alerts.length ≤ 4)
  posted : ∃ closed, u.ext.posted = t.ext.posted ++ closed
  free : ∃ opened, t.ext.free = opened ++ u.ext.free

theorem Tracker.Extends.of_same {t u : Tracker} (ha : u.alerts = t.alerts) (hp : u.ext.posted = t.ext.posted)
    (hf : u.ext.free = t.ext.free) : t.Extends u :=
  ⟨⟨[], by rw [ha, List.append_nil], fun h => absurd rfl h⟩, ⟨[], by rw [hp, List.append_nil]⟩, ⟨[], by rw [hf]; rfl⟩⟩

theorem Tracker.Extends.trans {t u v : Tracker} (h : t.Extends u) (h' : u.Extends v) : t.Extends v := by
  obtain ⟨⟨added, hadded, hroom⟩, ⟨closed, hclosed⟩, ⟨opened, hopened⟩⟩ := h
  obtain ⟨⟨added', hadded', hroom'⟩, ⟨closed', hclosed'⟩, ⟨opened', hopened'⟩⟩ := h'
  refine ⟨⟨added ++ added', by rw [hadded', hadded, List.append_assoc], fun hsome => ?_⟩,
    ⟨closed ++ closed', by rw [hclosed', hclosed, List.append_assoc]⟩,
    ⟨opened ++ opened', by rw [hopened, hopened', List.append_assoc]⟩⟩
  by_cases hnone : added' = []
  · subst hnone
    rw [List.append_nil] at hadded' hsome
    rw [hadded']
    exact hroom hsome
  · exact hroom' hnone

section

variable (t : Tracker) (c : ConfigRecord) (m : Fin 16) (row : RowRef) (epoch : BitVec 8) (speed level : Nat)

theorem raiseTracked_extends (k : Fin 32) : t.Extends (t.raiseTracked k row epoch speed) := by
  unfold Tracker.raiseTracked
  dsimp only
  split
  · next hroom => exact ⟨⟨_, rfl, fun _ => by simpa [Config.alertCapacity] using hroom⟩, ⟨[], by simp [Ext.updateRecord]⟩, ⟨[], rfl⟩⟩
  · exact .of_same rfl rfl rfl

theorem raiseUntracked_extends (u : UntrackedRecord) : t.Extends (t.raiseUntracked m u row epoch speed) := by
  unfold Tracker.raiseUntracked
  split
  · next hroom => exact ⟨⟨_, rfl, fun _ => by simpa [Config.alertCapacity] using hroom⟩, ⟨[], by simp [Ext.setTracking]⟩, ⟨[], rfl⟩⟩
  · exact .of_same rfl rfl rfl

theorem opened_extends (run : PendingRun) : t.Extends (t.opened m run level row epoch speed) := by
  unfold Tracker.opened
  split
  · next k rest hfree =>
    have hopen : t.Extends { t with ext := t.ext.openContext k rest m (openRecord m run level row speed) } :=
      ⟨⟨[], (List.append_nil _).symm, fun h => absurd rfl h⟩, ⟨[], (List.append_nil _).symm⟩, ⟨[k], hfree⟩⟩
    dsimp only
    split
    · exact hopen.trans (raiseTracked_extends _ row epoch speed k)
    · exact hopen
  · have hopen : t.Extends { t with ext := t.ext.openWithout m (openUntracked run) } := .of_same rfl rfl rfl
    dsimp only
    split
    · exact hopen.trans (raiseUntracked_extends _ m row epoch speed _)
    · exact hopen

theorem followed_extends (valid : Bool) (a : Nat) (v : Int) (sat low : Bool) :
    t.Extends (t.followed m row epoch valid a v sat low speed level) := by
  unfold Tracker.followed
  split
  · exact .of_same rfl rfl rfl
  · next k _ =>
    have hrow : t.Extends { t with ext := t.ext.updateRecord k fun r => r.afterRow row epoch valid a v sat low level } :=
      .of_same rfl rfl rfl
    dsimp only
    split
    · exact hrow.trans (raiseTracked_extends _ row epoch speed k)
    · exact hrow
  · next u _ =>
    have hrow : t.Extends { t with ext := t.ext.setTracking m (.untracked (u.afterRow row valid a v)) } := .of_same rfl rfl rfl
    dsimp only
    split
    · exact hrow.trans (raiseUntracked_extends _ m row epoch speed _)
    · exact hrow

theorem closed_extends (cause : CloseCause) (endRow : RowRef) : t.Extends { t with ext := t.ext.closed c m cause endRow } := by
  unfold Ext.closed
  split
  · exact .of_same rfl rfl rfl
  · next k _ => exact ⟨⟨[], (List.append_nil _).symm, fun h => absurd rfl h⟩, ⟨[k], rfl⟩, ⟨[], rfl⟩⟩
  · exact .of_same rfl rfl rfl

theorem take_extends (n : Notice) : t.Extends (t.take c n) := by
  cases n with
  | opened m run level row epoch speed => exact opened_extends t m row epoch speed level run
  | row m row epoch valid a v sat low speed level => exact followed_extends t m row epoch speed level valid a v sat low
  | closed m cause endRow level => exact closed_extends t c m cause endRow

theorem takeRow_extends (ns : List Notice) (index : Quad) : t.Extends (t.takeRow c ns index) :=
  have hall : t.Extends (ns.foldl (fun t n => t.take c n) t) :=
    foldl_take_keeps (P := fun u => t.Extends u) c (fun u n hu => hu.trans (take_extends u c n)) ns (.of_same rfl rfl rfl)
  hall.trans (.of_same rfl rfl rfl)

end

/-! ### A row and a gap notice at EXD (R134, R148) -/

section

variable {s : State} {rest : List RowItem}

theorem rowEvent_of_kept {r : Row} (hl : s.links.mseToExd = .row r :: rest) (hk : s.keeps r.run = true) {u : Tracker}
    (hu : s.tracker.takeRow s.cmu.config (s.exd.rowNotices s.mse.measures r) r.index = u) {x : Exd}
    (hx : s.exd.takeRow s.mse.measures r = x) : s.rowEvent = { s with
      exd := x
      ext := u.ext
      ltx := { s.ltx with alerts := u.alerts }
      links := { s.links with mseToExd := rest } } := by
  simp only [State.rowEvent, hl, List.head?_cons, hk, if_true, Links.takenByExd, List.tail_cons, hu, hx]
  rfl

/-- R167: the open count that a row publishes. -/
theorem takeRow_published (t : Tracker) (c : ConfigRecord) (ns : List Notice) (index : Quad) :
    (t.takeRow c ns index).ext.openCount = (t.takeRow c ns index).ext.countIn .opened ∧
      (t.takeRow c ns index).ext.openRow = some index := ⟨rfl, rfl⟩

theorem exdGap_of_kept {run : BitVec 8} (hl : s.links.mseToExd = .gap run :: rest) (hk : s.keeps run = true) :
    s.exdGap = { s with
      exd := { s.exd with detectors := Vector.ofFn fun m : Fin 16 =>
        if (s.exd.detectors[m]).mode = DetectorMode.disabled then s.exd.detectors[m] else .cleared .quiet }
      ext := s.ext.truncate s.cmu.config
      links := { s.links with mseToExd := rest } } := by
  simp only [State.exdGap, hl, List.head?_cons, hk, if_true, Links.takenByExd, List.tail_cons]
  rw [endExceedances_eq]
  rfl

theorem exd_of_no_item (h : s.links.mseToExd = []) : s.rowEvent = s ∧ s.exdGap = s := by
  unfold State.rowEvent State.exdGap
  rw [h]
  exact ⟨rfl, rfl⟩

end

end Sys2Proof.Machine

/-! The statements about stale work and about rows at EXD. -/

namespace Sys2Proof.Proofs

open Sys2Proof Sys2Proof.Machine

/-- Settles O21: each stage takes its item off its hand-over, whatever the item is. -/
theorem staleWorkIsDiscardedAtEveryStage : Obligations.StaleWorkIsDiscardedAtEveryStage := by
  unfold Obligations.StaleWorkIsDiscardedAtEveryStage
  intro s run hstale
  have hk : s.keeps run = false := Bool.eq_false_iff.mpr (mt (keeps_iff s run).mp hstale)
  exact ⟨fun x rest hl hroom hx => congrArg Host.Outcome.next (locSample_of_stale hk hl hroom hx),
    fun rest hl hroom => congrArg Host.Outcome.next (locGap_of_stale hk hl hroom),
    fun y hl hroom hy => congrArg Host.Outcome.next (sampleEvent_of_stale hk hl hroom hy),
    fun hl hroom => congrArg Host.Outcome.next (gapEvent_of_stale hk hl hroom),
    fun x rest hl hx => congrArg Host.Outcome.next (rowEvent_of_stale hk hl hx),
    fun rest hl => congrArg Host.Outcome.next (exdGap_of_stale hk hl),
    fun x rest hl hx => congrArg Host.Outcome.next (stuRow_of_stale hk hl hx),
    fun rest hl => congrArg Host.Outcome.next (stuGap_of_stale hk hl),
    fun x rest hl hx => congrArg Host.Outcome.next (ltxRow_of_stale hk hl hx),
    fun rest hl => congrArg Host.Outcome.next (ltxGap_of_stale hk hl)⟩

/-- Settles O42: every measure judged, its notices taken in order, and what they add to the queues. -/
theorem rowEventsJudgeEveryMeasureAndTrackIt : Obligations.RowEventsJudgeEveryMeasureAndTrackIt := by
  unfold Obligations.RowEventsJudgeEveryMeasureAndTrackIt
  refine ⟨fun s r rest hl hm hrun => ?_, fun s rest hl hm => ?_, fun s hl => ?_⟩
  · intro judged
    have hext := takeRow_extends s.tracker s.cmu.config (s.exd.rowNotices s.mse.measures r) r.index
    obtain ⟨hcount, hrow⟩ := takeRow_published s.tracker s.cmu.config (s.exd.rowNotices s.mse.measures r) r.index
    generalize hu : s.tracker.takeRow s.cmu.config (s.exd.rowNotices s.mse.measures r) r.index = u at hext hcount hrow
    have hevent := rowEvent_of_kept hl ((keeps_iff s r.run).mpr ⟨hm, hrun⟩) hu rfl
    exact ⟨_, congrArg Host.Outcome.next hevent, rfl, hu.symm, hcount, hrow, hext.alerts, hext.posted, hext.free⟩
  · exact congrArg Host.Outcome.next (exdGap_of_kept hl ((keeps_iff s s.cmu.runNumber).mpr ⟨hm, rfl⟩))
  · obtain ⟨hrow, hgap⟩ := exd_of_no_item hl
    exact ⟨congrArg Host.Outcome.next hrow, congrArg Host.Outcome.next hgap⟩

end Sys2Proof.Proofs


/-! SUPPORT. The position set by the host, the judgement of a mark, and the commands over the section table (R88, R89, R93, R94,
R99, R102). -/

namespace Sys2Proof.Machine

section

variable {s : State} {e : CommandEntry}

/-! ### SET POSITION (R89) -/

theorem setPosition_of_outside {p : Int} (hp : signedField e.args 0 4 = p)
    (h : ¬(-2147483648 ≤ p - s.odo.measured ∧ p - s.odo.measured ≤ 2147483647)) :
    setPosition e s = (s, .refuse .badArg) := by
  subst hp
  exact if_neg (mt (inPositionRange_iff _).mp h)

theorem setPosition_of_inside {p : Int} (hp : signedField e.args 0 4 = p)
    (h : -2147483648 ≤ p - s.odo.measured ∧ p - s.odo.measured ≤ 2147483647) :
    setPosition e s = ((s.withLoc (s.loc.setPosition (p - s.odo.measured))).emitLocation
        (.positionSet (clampPosition (p - s.odo.measured - s.loc.offset))) s.odo.measured,
      .done (octetsOf 4 s.odo.measured ++ octetsOf 4 (p - s.odo.measured) ++
        octetsOf 4 (clampPosition (p - s.odo.measured - s.loc.offset)) ++ octetsOf 1 (s.loc.epoch + 1).toNat)) := by
  subst hp
  exact if_pos ((inPositionRange_iff _).mpr h)

/-! ### A mark at LOC (R93, R94) -/

theorem markHandoff_of_no_mark (h : s.links.locToMse ≠ none ∨ ∀ q m rest, s.links.odoToLoc ≠ .mark q m :: rest) :
    s.markHandoff = s := by
  have hitem : ∀ q m, s.locItem ≠ some (.mark q m) := by
    intro q m
    unfold State.locItem
    rcases h with hbusy | hnone
    · split
      · next hfree => exact absurd hfree hbusy
      · nofun
    · split
      · intro hhead
        obtain ⟨rest, hqueue⟩ := List.head?_eq_some_iff.mp hhead
        exact hnone q m rest hqueue
      · nofun
  unfold State.markHandoff
  split
  · next q m hmark => exact absurd hmark (hitem q m)
  · rfl

/-- R93, R94: a mark at the front of ODO's hand-over, with room at MSE. -/
theorem markHandoff_of_mark {q : Nat} {m : Int} {rest : List OdoItem} (hq : s.links.odoToLoc = .mark q m :: rest)
    (hfree : s.links.locToMse = none) :
    s.markHandoff = if s.loc.heldOff q m then { s with links := { s.links with odoToLoc := rest } }
      else { s with
        links := { s.links with odoToLoc := rest }
        loc := (s.loc.judgeMark q m).1
        ltx := s.ltx.offerLocation ((s.loc.judgeMark q m).1.record (s.loc.judgeMark q m).2 m) } := by
  have hitem : s.locItem = some (.mark q m) := by
    unfold State.locItem
    rw [hfree, hq]
    rfl
  have hdrop : s.dropLocItem = { s with links := { s.links with odoToLoc := rest } } := by
    unfold State.dropLocItem
    rw [hq]
    rfl
  unfold State.markHandoff
  rw [hitem, hdrop]
  rfl

theorem heldOff_iff {l : Loc} {q : Nat} {m : Int} :
    l.heldOff q m = true ↔ ∃ h, l.holdoff = some h ∧ h.id = q ∧ m - h.measured ≤ 10000 := by
  unfold Loc.heldOff
  split
  · next hnone => simp [hnone]
  · next h hsome => simp [hsome, Config.holdoffMm]

theorem acceptsMark_iff {l : Loc} {x : MarkEntry} {delta : Int} :
    l.acceptsMark x delta = true ↔ l.located = false ∨ x.window = 0 ∨ delta.natAbs ≤ x.window := by
  simp [Loc.acceptsMark, or_assoc]

/-- R94, step 4: the epoch rises unless the car was located and δ is 0. -/
theorem applyMark_eq (l : Loc) (q : Nat) (m delta : Int) : l.applyMark q m delta = { l with
    offset := l.offset + delta
    located := true
    holdoff := some { id := q, measured := m }
    epoch := if l.located = true ∧ delta = 0 then l.epoch else l.epoch + 1
    cursor := if l.located = true ∧ delta = 0 then l.cursor else none } := by
  have hsame : (l.located && delta == 0) = true ↔ l.located = true ∧ delta = 0 := by simp
  unfold Loc.applyMark
  by_cases h : l.located = true ∧ delta = 0
  · simp only [if_pos (hsame.mpr h), if_pos h]
  · simp only [if_neg (mt hsame.mp h), if_neg h, Loc.nextEpoch]

section

variable {l : Loc} {q : Nat} {m : Int} {x : MarkEntry}

theorem judgeMark_of_unknown (h : markEntry? l.marks q = none) : l.judgeMark q m = (l, .markUnknown q) := by
  rw [Loc.judgeMark, h]

theorem judgeMark_of_applied (h : markEntry? l.marks q = some x) (ha : l.acceptsMark x (l.markDelta x m) = true)
    (hr : inPositionRange (l.offset + l.markDelta x m) = true) :
    l.judgeMark q m = (l.applyMark q m (l.markDelta x m), .markApplied q x (clampPosition (l.markDelta x m))) := by
  rw [Loc.judgeMark, h]
  exact (if_pos ha).trans (if_pos hr)

theorem judgeMark_of_range (h : markEntry? l.marks q = some x) (ha : l.acceptsMark x (l.markDelta x m) = true)
    (hr : ¬inPositionRange (l.offset + l.markDelta x m) = true) :
    l.judgeMark q m = (l, .markRejected q x (clampPosition (l.markDelta x m)) .range) := by
  rw [Loc.judgeMark, h]
  exact (if_pos ha).trans (if_neg hr)

theorem judgeMark_of_window (h : markEntry? l.marks q = some x) (ha : ¬l.acceptsMark x (l.markDelta x m) = true) :
    l.judgeMark q m = (l, .markRejected q x (clampPosition (l.markDelta x m)) .window) := by
  rw [Loc.judgeMark, h]
  exact if_neg ha

end

/-! ### The section table (R99, R102) -/

/-- R99: the arguments of APPEND SECTION. -/
def sectionArguments (start finish cant : Int) (band present : Nat) (suppress : Half) : List Octet :=
  octetsOf 4 start ++ (octetsOf 4 finish ++ (octetsOf 1 band ++ (octetsOf 2 suppress.toNat ++
    (octetsOf 1 present ++ octetsOf 4 cant))))

section

variable {start finish cant : Int} {band present : Nat} {suppress : Half}

theorem sectionArguments_length : (sectionArguments start finish cant band present suppress).length = 16 := by
  simp [sectionArguments]

theorem field_sectionArguments (hb : band < 256) (hp : present < 256) :
    field (sectionArguments start finish cant band present suppress) 8 1 = band ∧
      BitVec.ofNat 16 (field (sectionArguments start finish cant band present suppress) 9 2) = suppress ∧
      field (sectionArguments start finish cant band present suppress) 11 1 = present := by
  have hsuppress : ∀ rest, field (octetsOf 2 suppress.toNat ++ rest) 0 2 = suppress.toNat :=
    fun rest => field_octetsOf 2 _ rest suppress.isLt
  simp [sectionArguments, field_append_right, field_octetsOf, hsuppress, hb, hp]

theorem signedField_sectionArguments (hs : -2147483648 ≤ start) (hs' : start ≤ 2147483647) (hf : -2147483648 ≤ finish)
    (hf' : finish ≤ 2147483647) (hc : -2147483648 ≤ cant) (hc' : cant ≤ 2147483647) :
    signedField (sectionArguments start finish cant band present suppress) 0 4 = start ∧
      signedField (sectionArguments start finish cant band present suppress) 4 4 = finish ∧
      signedField (sectionArguments start finish cant band present suppress) 12 4 = cant := by
  have hstart : ∀ rest, signedField (octetsOf 4 start ++ rest) 0 4 = start :=
    fun rest => signedField_of_front 4 start rest (by omega) (by omega)
  have hfinish : ∀ rest, signedField (octetsOf 4 finish ++ rest) 0 4 = finish :=
    fun rest => signedField_of_front 4 finish rest (by omega) (by omega)
  have hcant : signedField (octetsOf 4 cant) 0 4 = cant := signedField_octetsOf_last 4 cant (by omega) (by omega)
  simp [sectionArguments, signedField_append_right, hstart, hfinish, hcant]

end

theorem sectionCant?_of_lt {a : List Octet} {present : Nat} {cant : Int} (hp : field a 11 1 = present)
    (hc : signedField a 12 4 = cant) (h : present < 2) :
    sectionCant? a = some (if present = 1 then some cant else none) := by
  subst hp hc
  unfold sectionCant?
  rw [yesNo?_of_lt h]
  by_cases hone : field a 11 1 = 1 <;> simp [hone]

theorem sectionCant?_of_le {a : List Octet} (h : 2 ≤ field a 11 1) : sectionCant? a = none := by
  rw [sectionCant?, yesNo?_of_le h]

/-- R99, check 1: a band and a presence octet in range leave the order of the two ends and the range of the cant. -/
theorem sectionEntry?_of_codes {a : List Octet} {start finish : Int} {band : Nat} {suppress : Half} {cant : Option Int}
    (hstart : signedField a 0 4 = start) (hfinish : signedField a 4 4 = finish) (hband : field a 8 1 = band)
    (hsuppress : BitVec.ofNat 16 (field a 9 2) = suppress) (hcant : sectionCant? a = some cant) (h : band < 5) :
    sectionEntry? a = if start < finish ∧ ∀ v ∈ cant, -1000000 ≤ v ∧ v ≤ 1000000 then
      some { start := start, finish := finish, band := ⟨band, h⟩, suppress := suppress, cant := cant } else none := by
  subst hstart hfinish hband hsuppress
  refine (dif_pos h).trans ?_
  rw [hcant]

theorem sectionEntry?_of_band {a : List Octet} (h : 5 ≤ field a 8 1) : sectionEntry? a = none := dif_neg (not_lt.mpr h)

theorem sectionEntry?_of_presence {a : List Octet} (h : 2 ≤ field a 11 1) : sectionEntry? a = none := by
  unfold sectionEntry?
  rw [sectionCant?_of_le h]
  split <;> rfl

theorem outOfOrder_iff {t : List SectionEntry} {x : SectionEntry} :
    outOfOrder t x = true ↔ ∃ tail, t.getLast? = some tail ∧ x.start < tail.finish := by
  unfold outOfOrder
  split
  · next hnone => simp [hnone]
  · next tail hsome => simp [hsome]

theorem appendSection_of_none (h : sectionEntry? e.args = none) : appendSection e s = (s, .refuse .badArg) := by
  rw [appendSection, h]

theorem appendSection_of_entry {x : SectionEntry} (h : sectionEntry? e.args = some x) :
    appendSection e s = if outOfOrder s.loc.sections x then (s, .refuse .order)
      else if 512 ≤ s.loc.sections.length then (s, .refuse .full)
      else (s.withLoc { s.loc with sections := s.loc.sections ++ [x], cursor := none },
        .done (octetsOf 2 (s.loc.sections.length + 1 : Nat))) := by
  rw [appendSection, h]

theorem readSection_of_index {i : Nat} (hi : field e.args 0 2 = i) : readSection e s =
    if 511 < i then (s, .refuse .badArg)
    else match s.loc.sections[i]? with
      | none => (s, .refuse .notFound)
      | some x => (s, .done (octetsOf 2 s.loc.sections.length ++ x.octets)) := by
  subst hi
  rfl

/-- R102: a section entry's octets, its cant a presence octet and 4 octets that are 0 when it has none. -/
theorem section_octets_eq (x : SectionEntry) : x.octets =
    octetsOf 4 x.start ++ (octetsOf 4 x.finish ++ (octetsOf 1 x.band.val ++ (octetsOf 2 x.suppress.toNat ++
      (match x.cant with
        | none => [0, 0, 0, 0, 0]
        | some c => (1 : Octet) :: octetsOf 4 c)))) := by
  unfold SectionEntry.octets
  simp only [List.append_assoc]
  cases x.cant <;> rfl

end

end Sys2Proof.Machine

/-! The statements about positions, marks and sections. -/

namespace Sys2Proof.Proofs

open Sys2Proof Sys2Proof.Machine

/-- Settles O33: the offset is in range or the position is refused. -/
theorem setPositionAnchorsTheOffset : Obligations.SetPositionAnchorsTheOffset := by
  unfold Obligations.SetPositionAnchorsTheOffset
  intro s source tag rest p hp hp' h measured offset delta
  have hfield : signedField (commandEntry source false 0x14 tag (octetsOf 4 p)).args 0 4 = p :=
    (commandEntry_args ..).symm ▸ signedField_octetsOf_last 4 p (by omega) (by omega)
  refine ⟨fun hout => ?_, fun hlow hhigh => ?_⟩
  · refine h.exec_addressed (row := .setPosition) rfl nofun rfl rfl trivial (r := .refuse .badArg)
      (setPosition_of_outside (s := s.taken rest) hfield fun hin => ?_)
    rcases hout with hlow | hhigh
    · exact absurd hin.1 (not_le.mpr hlow)
    · exact absurd hin.2 (not_le.mpr hhigh)
  · have hact := setPosition_of_inside (s := s.taken rest) hfield ⟨hlow, hhigh⟩
    rw [octetsOf_one] at hact
    exact h.exec_addressed (row := .setPosition) rfl nofun rfl rfl trivial hact

/-- Settles O34: what LOC judges of the mark, then its record. -/
theorem markHandoffsCorrectTheOffset : Obligations.MarkHandoffsCorrectTheOffset := by
  unfold Obligations.MarkHandoffsCorrectTheOffset
  refine ⟨fun s h => congrArg Host.Outcome.next (markHandoff_of_no_mark h), fun s q m rest hq hfree => ?_⟩
  intro s1 heldOff emitted
  have hmark := markHandoff_of_mark hq hfree
  have hjudged : ¬heldOff → s.markHandoff = _ := fun h => hmark.trans (if_neg (mt heldOff_iff.mp h))
  refine ⟨fun h => congrArg Host.Outcome.next (hmark.trans (if_pos (heldOff_iff.mpr h))), fun h hnone => ?_,
    fun x h hsome => ?_⟩
  · have hkind := judgeMark_of_unknown (m := m) hnone
    exact congrArg Host.Outcome.next ((hjudged h).trans (by rw [hkind]; rfl))
  · intro delta accepted fits shown applied
    have happlied : s.loc.applyMark q m delta = applied := applyMark_eq s.loc q m delta
    refine ⟨fun ha hr => ?_, fun ha hr => ?_, fun ha => ?_⟩
    · have hkind := judgeMark_of_applied hsome (acceptsMark_iff.mpr ha) ((inPositionRange_iff _).mpr hr)
      refine congrArg Host.Outcome.next ((hjudged h).trans ?_)
      rw [hkind, ← happlied]
      rfl
    · have hkind := judgeMark_of_range hsome (acceptsMark_iff.mpr ha) (mt (inPositionRange_iff _).mp hr)
      exact congrArg Host.Outcome.next ((hjudged h).trans (by rw [hkind]; rfl))
    · have hkind := judgeMark_of_window hsome (mt acceptsMark_iff.mp ha)
      exact congrArg Host.Outcome.next ((hjudged h).trans (by rw [hkind]; rfl))

/-- Settles O35: the fields of each command as they were written, then the checks in order. -/
theorem sectionTableFollowsItsCommands : Obligations.SectionTableFollowsItsCommands := by
  unfold Obligations.SectionTableFollowsItsCommands
  refine fun s source tag rest => ⟨fun start finish cant band present suppress hs hs' hf hf' hc hc' hb hp h => ?_,
    fun h => h.exec_addressed (row := .clearSections) rfl nofun rfl rfl trivial (r := .done [0, 0]) rfl,
    fun i hi h => ?_⟩
  · intro inRange behind
    change s.CanTake (commandEntry source false 0x58 tag (sectionArguments start finish cant band present suppress)) rest at h
    have hargs := commandEntry_args source false 0x58 tag (sectionArguments start finish cant band present suppress)
    obtain ⟨hband, hsuppress, hpresent⟩ := field_sectionArguments (start := start) (finish := finish) (cant := cant)
      (suppress := suppress) hb hp
    obtain ⟨hstart, hfinish, hcant⟩ := signedField_sectionArguments (band := band) (present := present)
      (suppress := suppress) hs hs' hf hf' hc hc'
    rw [← hargs] at hband hsuppress hpresent hstart hfinish hcant
    have hentry : ∀ (h5 : band < 5), present < 2 → _ := fun h5 h2 =>
      sectionEntry?_of_codes hstart hfinish hband hsuppress (sectionCant?_of_lt hpresent hcant h2) h5
    have hcantRange : (∀ v ∈ (if present = 1 then some cant else none : Option Int), -1000000 ≤ v ∧ v ≤ 1000000) ↔
        (present = 1 → -1000000 ≤ cant ∧ cant ≤ 1000000) := by
      by_cases hone : present = 1 <;> simp [hone]
    have hgood : ∀ (hr : inRange), _ := fun hr =>
      (hentry hr.2.1 hr.2.2.1).trans (if_pos ⟨hr.1, hcantRange.mpr hr.2.2.2⟩)
    refine ⟨fun hbad => ?_, fun hr hbehind => ?_, fun hr hbehind hfull => ?_, fun h5 hr hbehind hroom => ?_⟩
    · refine h.exec_addressed (row := .appendSection) rfl nofun rfl sectionArguments_length trivial (r := .refuse .badArg)
        (appendSection_of_none ?_)
      by_cases h5 : band < 5
      · by_cases h2 : present < 2
        · exact (hentry h5 h2).trans (if_neg fun ⟨hlt, hv⟩ => hbad ⟨hlt, h5, h2, hcantRange.mp hv⟩)
        · exact sectionEntry?_of_presence (by omega)
      · exact sectionEntry?_of_band (by omega)
    · exact h.exec_addressed (row := .appendSection) rfl nofun rfl sectionArguments_length trivial (r := .refuse .order)
        ((appendSection_of_entry (hgood hr)).trans (if_pos (outOfOrder_iff.mpr hbehind)))
    · exact h.exec_addressed (row := .appendSection) rfl nofun rfl sectionArguments_length trivial (r := .refuse .full)
        ((appendSection_of_entry (hgood hr)).trans ((if_neg (mt outOfOrder_iff.mp hbehind)).trans (if_pos hfull)))
    · have hact := (appendSection_of_entry (s := s.taken rest) (hgood hr)).trans
        ((if_neg (mt outOfOrder_iff.mp hbehind)).trans (if_neg (not_le.mpr hroom)))
      exact h.exec_addressed (row := .appendSection) rfl nofun rfl sectionArguments_length trivial hact
  · have hfield : field (commandEntry source false 0x5A tag (octetsOf 2 i)).args 0 2 = i :=
      (commandEntry_args ..).symm ▸ field_octetsOf_last 2 i hi
    have hact := readSection_of_index (s := s.taken rest) hfield
    refine ⟨fun hbad => ?_, fun hlow hshort => ?_, fun x hlow hx => ?_⟩
    · exact h.exec_addressed (row := .readSection) rfl nofun rfl rfl trivial (r := .refuse .badArg) (hact.trans (if_pos hbad))
    · have hnone : (s.taken rest).loc.sections[i]? = none := List.getElem?_eq_none hshort
      refine h.exec_addressed (row := .readSection) rfl nofun rfl rfl trivial (r := .refuse .notFound)
        (hact.trans ((if_neg (not_lt.mpr hlow)).trans ?_))
      rw [hnone]
    · have hsome : (s.taken rest).loc.sections[i]? = some x := hx
      have hread : readSection (commandEntry source false 0x5A tag (octetsOf 2 i)) (s.taken rest) =
          (s.taken rest, .done (octetsOf 2 s.loc.sections.length ++ x.octets)) := by
        rw [hact, if_neg (not_lt.mpr hlow), hsome]
        rfl
      have hdone := h.exec_addressed (row := .readSection) rfl nofun rfl rfl trivial hread
      rw [section_octets_eq] at hdone
      simp only [List.append_assoc]
      exact hdone

end Sys2Proof.Proofs


/-! SUPPORT. The commands over the parameter table and the measure table, and REBASE (R106, R107, R117, R118, R127). -/

namespace Sys2Proof.Machine

section

variable {s : State} {e : CommandEntry}

/-! ### The parameter table (R106, R107) -/

/-- R106: the term records of a WRITE PARAMETER. -/
def termOctets (records : List (Nat × Int)) : List Octet := records.flatMap fun r => octetsOf 1 r.1 ++ octetsOf 2 r.2

/-- R106: the arguments of WRITE PARAMETER. -/
def parameterArguments (p count : Nat) (records : List (Nat × Int)) (k : Int) : List Octet :=
  octetsOf 1 p ++ (octetsOf 1 count ++ (termOctets records ++ octetsOf 4 k))

/-- R106: a term record whose values fit their octets. -/
def FitsTerm (r : Nat × Int) : Prop := r.1 < 256 ∧ -32768 ≤ r.2 ∧ r.2 ≤ 32767

theorem termOctets_length (records : List (Nat × Int)) : (termOctets records).length = 3 * records.length := by
  induction records with
  | nil => rfl
  | cons r rest ih =>
    simp only [termOctets, List.flatMap_cons, List.length_append, octetsOf_length, List.length_cons] at ih ⊢
    omega

/-- R106: the record at a place of the list stands three octets further for each one before it. -/
theorem field_termOctets {records : List (Nat × Int)} {i : Nat} {r : Nat × Int} (hr : records[i]? = some r) (h : FitsTerm r)
    (tail : List Octet) : field (termOctets records ++ tail) (3 * i) 1 = r.1 ∧
      signedField (termOctets records ++ tail) (3 * i + 1) 2 = r.2 := by
  obtain ⟨hchannel, hlow, hhigh⟩ := h
  induction records generalizing i with
  | nil => exact absurd hr nofun
  | cons x rest ih =>
    have hcons : termOctets (x :: rest) ++ tail =
        (octetsOf 1 x.1 ++ octetsOf 2 x.2) ++ (termOctets rest ++ tail) := by
      simp only [termOctets, List.flatMap_cons, List.append_assoc]
    have hlength : (octetsOf 1 (x.1 : Int) ++ octetsOf 2 x.2).length = 3 := by simp
    cases i with
    | zero =>
      obtain rfl : x = r := by simpa using hr
      rw [hcons, List.append_assoc]
      refine ⟨field_octetsOf 1 _ _ hchannel, ?_⟩
      rw [signedField_append_right _ _ _ _ (by simp)]
      simpa using signedField_of_front 2 x.2 _ (by omega) (by omega)
    | succ i =>
      obtain ⟨hfield, hsigned⟩ := ih (by simpa using hr)
      rw [hcons, field_append_right _ _ _ _ (by omega), signedField_append_right _ _ _ _ (by omega), hlength]
      exact ⟨hfield, hsigned⟩

section

variable {p count : Nat} {records : List (Nat × Int)} {k : Int}

theorem parameterArguments_length (h : records.length = 3) : (parameterArguments p count records k).length = 15 := by
  simp [parameterArguments, termOctets_length, h]

theorem field_parameterArguments (hp : p < 256) (hc : count < 256) :
    field (parameterArguments p count records k) 0 1 = p ∧ field (parameterArguments p count records k) 1 1 = count := by
  simp [parameterArguments, field_append_right, field_octetsOf, hp, hc]

theorem constant_parameterArguments (h : records.length = 3) (hk : -2147483648 ≤ k) (hk' : k ≤ 2147483647) :
    signedField (parameterArguments p count records k) 11 4 = k := by
  have hlast : signedField (octetsOf 4 k) 0 4 = k := signedField_octetsOf_last 4 k (by omega) (by omega)
  simp [parameterArguments, signedField_append_right, termOctets_length, h, hlast]

/-- R106: a term record read where its place puts it. -/
theorem termAt?_parameterArguments {i : Nat} {r : Nat × Int} (hr : records[i]? = some r) (h : FitsTerm r) :
    termAt? (parameterArguments p count records k) i =
      if hc : r.1 < 12 then some { channel := ⟨r.1, hc⟩, weight := r.2 } else none := by
  obtain ⟨hchannel, hweight⟩ := field_termOctets hr h (octetsOf 4 k)
  have hpos : 2 + 3 * i - 1 - 1 = 3 * i := by omega
  have hpos' : 3 + 3 * i - 1 - 1 = 3 * i + 1 := by omega
  have hfield : field (parameterArguments p count records k) (2 + 3 * i) 1 = r.1 := by
    rw [parameterArguments, field_append_right _ _ _ _ (by simp; omega), field_append_right _ _ _ _ (by simp),
      octetsOf_length, octetsOf_length, hpos]
    exact hchannel
  have hsigned : signedField (parameterArguments p count records k) (3 + 3 * i) 2 = r.2 := by
    rw [parameterArguments, signedField_append_right _ _ _ _ (by simp; omega),
      signedField_append_right _ _ _ _ (by simp; omega), octetsOf_length, octetsOf_length, hpos']
    exact hweight
  unfold termAt?
  simp only [hfield, hsigned]

end

/-- R106: the records counted, read one by one: all of them, where every channel is in range. -/
theorem mapM_eq_some {f : Nat → Option Term} {xs : List (Nat × Int)}
    (h : ∀ i r, xs[i]? = some r → ∃ t, f i = some t ∧ (t.channel.val, t.weight) = r) :
    ∃ ts, (List.range xs.length).mapM f = some ts ∧ ts.map (fun t => (t.channel.val, t.weight)) = xs := by
  induction xs generalizing f with
  | nil => exact ⟨[], rfl, rfl⟩
  | cons x rest ih =>
    obtain ⟨t, ht, hx⟩ := h 0 x rfl
    obtain ⟨ts, hts, hmap⟩ := ih (f := f ∘ Nat.succ) fun i r hr => h (i + 1) r (by simpa using hr)
    refine ⟨t :: ts, ?_, by rw [List.map_cons, hx, hmap]⟩
    rw [List.length_cons, List.range_succ_eq_map, List.mapM_cons, ht, List.mapM_map, hts]
    rfl

theorem mapM_eq_none {f : Nat → Option Term} {xs : List Nat} {i : Nat} (hi : i ∈ xs) (h : f i = none) :
    xs.mapM f = none := by
  induction xs with
  | nil => exact absurd hi nofun
  | cons x rest ih =>
    rw [List.mapM_cons]
    rcases List.mem_cons.mp hi with rfl | hrest
    · rw [h]
      rfl
    · rw [ih hrest]
      cases f x <;> rfl

theorem parameterEntry?_of_count {a : List Octet} (h : 3 < field a 1 1) : parameterEntry? a = none := if_pos h

theorem parameterEntry?_of_terms {a : List Octet} {count : Nat} {k : Int} {ts : List Term} (hc : field a 1 1 = count)
    (hk : signedField a 11 4 = k) (h : count ≤ 3) (hts : (List.range count).mapM (termAt? a) = some ts) :
    parameterEntry? a = if -1000000 ≤ k ∧ k ≤ 1000000 then some { terms := ts, k := k } else none := by
  subst hc hk
  rw [parameterEntry?, if_neg (not_lt.mpr h), hts]

theorem parameterEntry?_of_no_terms {a : List Octet} {count : Nat} (hc : field a 1 1 = count)
    (hts : (List.range count).mapM (termAt? a) = none) : parameterEntry? a = none := by
  subst hc
  unfold parameterEntry?
  rw [hts]
  split <;> rfl

theorem writeParameter_of_number (h : 10 ≤ field e.args 0 1) : writeParameter e s = (s, .refuse .badArg) :=
  dif_neg (not_lt.mpr h)

theorem writeParameter_of_none (h : parameterEntry? e.args = none) : writeParameter e s = (s, .refuse .badArg) := by
  unfold writeParameter
  rw [h]
  split <;> rfl

theorem writeParameter_of_entry {x : ParameterEntry} {p : Nat} (hx : parameterEntry? e.args = some x)
    (hp : field e.args 0 1 = p) (h : p < 10) :
    writeParameter e s = (s.withMse { s.mse with parameters := s.mse.parameters.set p x h }, .done []) := by
  subst hp
  refine (dif_pos h).trans ?_
  rw [hx]

theorem readParameter_of_number (h : 10 ≤ field e.args 0 1) : readParameter e s = (s, .refuse .badArg) :=
  dif_neg (not_lt.mpr h)

theorem readParameter_of_parameter {p : Nat} (hp : field e.args 0 1 = p) (h : p < 10) :
    readParameter e s = (s, .done (s.mse.parameterResults ⟨p, h⟩)) := by
  subst hp
  exact dif_pos h

theorem lastParameter_of_none {x : Mse} {p : Fin 10} (h : x.newest = none) : x.lastParameter p = none := by
  rw [Mse.lastParameter, h]

/-- R107: the newest slot holds the value of the parameter last computed. -/
theorem lastParameter_of_slot {x : Mse} {p : Fin 10} {i : Quad} {t : Slot} (hi : x.newest = some i)
    (ht : x.history[slotNumber i.toNat] = some t) (hindex : t.index = i) : x.lastParameter p = some t.parameters[p] := by
  have hslot : x.slotAt i.toNat = some t :=
    slotAt_eq_some.mpr ⟨Int.natCast_nonneg _, ht, by rw [hindex, Int.toNat_natCast]⟩
  rw [Mse.lastParameter, hi]
  dsimp only
  rw [hslot]
  rfl

end

end Sys2Proof.Machine

/-! The statement about the parameter table. -/

namespace Sys2Proof.Proofs

open Sys2Proof Sys2Proof.Machine

/-- Settles O37: the term records are read where they stand, and the newest slot gives the last value. -/
theorem parameterEntriesAreWrittenAndRead : Obligations.ParameterEntriesAreWrittenAndRead := by
  unfold Obligations.ParameterEntriesAreWrittenAndRead
  refine ⟨fun s source tag rest p count records k hp hc hrecords hfits hk hk' h hstop => ?_,
    fun s source tag rest p hp h => ?_⟩
  · intro inRange
    change s.CanTake (commandEntry source false 0x38 tag (parameterArguments p count records k)) rest at h
    have hargs := commandEntry_args source false 0x38 tag (parameterArguments p count records k)
    have hlength : (parameterArguments p count records k).length = 15 := parameterArguments_length hrecords
    obtain ⟨hnumber, hcount⟩ := field_parameterArguments (records := records) (k := k) hp hc
    have hconstant := constant_parameterArguments (p := p) (count := count) hrecords hk hk'
    have hterm : ∀ i r, (records.take count)[i]? = some r →
        termAt? (commandEntry source false 0x38 tag (parameterArguments p count records k)).args i =
          if hch : r.1 < 12 then some { channel := ⟨r.1, hch⟩, weight := r.2 } else none := by
      intro i r hr
      obtain ⟨-, hr'⟩ : i < count ∧ records[i]? = some r := by simpa [List.getElem?_take] using hr
      rw [hargs]
      exact termAt?_parameterArguments hr' (hfits r (List.mem_of_getElem? hr'))
    rw [← hargs] at hnumber hcount hconstant
    have hread : count ≤ 3 → (∀ r ∈ records.take count, r.1 < 12) → _ := fun h3 hgood =>
      mapM_eq_some fun i r hr => ⟨_, (hterm i r hr).trans (dif_pos (hgood r (List.mem_of_getElem? hr))), rfl⟩
    have htaken : count ≤ 3 → (records.take count).length = count := fun h3 => by
      rw [List.length_take, hrecords]
      omega
    refine ⟨fun hbad => ?_, fun h10 hr => ?_⟩
    · refine h.exec_addressed (row := .writeParameter) rfl nofun rfl hlength hstop (r := .refuse .badArg) ?_
      by_cases h10 : p < 10
      · refine writeParameter_of_none ?_
        by_cases h3 : count ≤ 3
        · by_cases hgood : ∀ r ∈ records.take count, r.1 < 12
          · obtain ⟨ts, hts, -⟩ := hread h3 hgood
            rw [htaken h3] at hts
            exact (parameterEntry?_of_terms hcount hconstant h3 hts).trans (if_neg fun hrange => hbad ⟨h10, h3, hgood, hrange⟩)
          · obtain ⟨r, hmem, hchannel⟩ : ∃ r ∈ records.take count, ¬r.1 < 12 := by simpa using hgood
            obtain ⟨i, hi, hr⟩ := List.getElem_of_mem hmem
            have hat : (records.take count)[i]? = some r := List.getElem?_eq_some_iff.mpr ⟨hi, hr⟩
            refine parameterEntry?_of_no_terms hcount (mapM_eq_none (i := i) ?_ ((hterm i r hat).trans (dif_neg hchannel)))
            exact List.mem_range.mpr (hi.trans_eq (htaken h3))
        · exact parameterEntry?_of_count (by omega)
      · exact writeParameter_of_number (by omega)
    · obtain ⟨-, h3, hgood, hrange⟩ := hr
      obtain ⟨ts, hts, hmap⟩ := hread h3 hgood
      rw [htaken h3] at hts
      have hentry := (parameterEntry?_of_terms hcount hconstant h3 hts).trans (if_pos hrange)
      exact ⟨{ terms := ts, k := k }, rfl, hmap, h.exec_addressed (row := .writeParameter) rfl nofun rfl hlength hstop
        (writeParameter_of_entry (s := s.taken rest) hentry hnumber h10)⟩
  · have hnumber : field (commandEntry source false 0x39 tag (octetsOf 1 p)).args 0 1 = p :=
      (commandEntry_args ..).symm ▸ field_octetsOf_last 1 p hp
    refine ⟨fun h10 => ?_, fun h10 => ?_⟩
    · exact h.exec_addressed (row := .readParameter) rfl nofun rfl rfl trivial (r := .refuse .badArg)
        (readParameter_of_number (h10.trans_eq hnumber.symm))
    · intro x entry
      have hresults : s.mse.parameterResults ⟨p, h10⟩ = entry ++ parameterValueOctets (s.mse.lastParameter ⟨p, h10⟩) := rfl
      have hread := h.exec_addressed (row := .readParameter) rfl nofun rfl rfl trivial
        (readParameter_of_parameter (s := s.taken rest) hnumber h10)
      rw [show (Reply.done ((s.taken rest).mse.parameterResults ⟨p, h10⟩)).results = _ from hresults] at hread
      refine ⟨fun hnone => ?_, fun i t hi ht hindex => ?_⟩
      · rw [lastParameter_of_none hnone] at hread
        exact hread
      · intro q
        rw [lastParameter_of_slot hi ht hindex] at hread
        simp only [List.append_assoc]
        exact hread

end Sys2Proof.Proofs


/-! SUPPORT. The commands over the measure table and REBASE (R117, R118, R127). -/

namespace Sys2Proof.Machine

section

variable {s : State} {e : CommandEntry}

/-- R117: the arguments of WRITE MEASURE. -/
def measureArguments (m kind p l beta group : Nat) : List Octet :=
  octetsOf 1 m ++ (octetsOf 1 kind ++ (octetsOf 1 p ++ (octetsOf 1 l ++ (octetsOf 1 beta ++ octetsOf 1 group))))

theorem field_measureArguments {m kind p l beta group : Nat} (hm : m < 256) (hk : kind < 256) (hp : p < 256) (hl : l < 256)
    (hb : beta < 256) (hg : group < 256) : field (measureArguments m kind p l beta group) 0 1 = m ∧
      field (measureArguments m kind p l beta group) 1 1 = kind ∧ field (measureArguments m kind p l beta group) 2 1 = p ∧
      field (measureArguments m kind p l beta group) 3 1 = l ∧ field (measureArguments m kind p l beta group) 4 1 = beta ∧
      field (measureArguments m kind p l beta group) 5 1 = group := by
  simp [measureArguments, field_append_right, field_octetsOf, field_octetsOf_last, hm, hk, hp, hl, hb, hg]

/-- R117: the entry of a kind from 0 to 5, with the fields the kind uses. -/
def measureOf (kind : Nat) (q : Fin 10) (l beta group : Nat) : MeasureEntry :=
  match kind with
  | 0 => .disabled
  | 1 => .direct q
  | 2 => .chord q l
  | 3 => .twist q l
  | 4 => .deviation q beta group
  | _ => .cantDeviation q beta group

/-- R117, checks 2 and 4 to 6: a kind's code, and the fields it uses. -/
def KindAllowed (kind l beta group alignDelay : Nat) : Prop :=
  kind ≤ 5 ∧ (kind = 2 ∨ kind = 3 → l % 2 = 0 ∧ 2 ≤ l ∧ l ≤ 120 ∧ l / 2 ≤ alignDelay) ∧
    (kind = 4 ∨ kind = 5 → 4 ≤ beta ∧ beta ≤ 15 ∧ group ≤ 4)

theorem measureEntry?_of_disabled {a : List Octet} {alignDelay : Nat} (h : field a 1 1 = 0) :
    measureEntry? a alignDelay = some .disabled := if_pos h

theorem measureEntry?_of_parameter {a : List Octet} {alignDelay : Nat} (hk : field a 1 1 ≠ 0) (h : 10 ≤ field a 2 1) :
    measureEntry? a alignDelay = none := (if_neg hk).trans (dif_neg (not_lt.mpr h))

section

variable {a : List Octet} {kind p l beta group alignDelay : Nat}

theorem measureEntry?_of_allowed (hkind : field a 1 1 = kind) (hp : field a 2 1 = p) (hl : field a 3 1 = l)
    (hb : field a 4 1 = beta) (hg : field a 5 1 = group) (hq : p < 10) (h : KindAllowed kind l beta group alignDelay) :
    measureEntry? a alignDelay = some (measureOf kind ⟨p, hq⟩ l beta group) := by
  subst hp hl hb hg
  obtain ⟨hcode, hlength, hbaseline⟩ := h
  rw [← lengthAllowed_iff] at hlength
  rw [← baselineAllowed_iff] at hbaseline
  simp only [measureEntry?, hkind, hq, dite_true]
  match kind, hcode with
  | 0, _ => rfl
  | 1, _ => rfl
  | 2, _ => exact (if_neg nofun).trans (if_pos (hlength (.inl rfl)))
  | 3, _ => exact (if_neg nofun).trans (if_pos (hlength (.inr rfl)))
  | 4, _ => exact (if_neg nofun).trans (if_pos (hbaseline (.inl rfl)))
  | 5, _ => exact (if_neg nofun).trans (if_pos (hbaseline (.inr rfl)))

theorem measureEntry?_of_refused (hkind : field a 1 1 = kind) (hl : field a 3 1 = l)
    (hb : field a 4 1 = beta) (hg : field a 5 1 = group) (h : ¬KindAllowed kind l beta group alignDelay) :
    measureEntry? a alignDelay = none := by
  subst hl hb hg
  rw [KindAllowed, ← lengthAllowed_iff, ← baselineAllowed_iff] at h
  unfold measureEntry?
  rw [hkind]
  by_cases hq : field a 2 1 < 10
  · rw [dif_pos hq]
    match kind, h with
    | 0, h => exact absurd ⟨by omega, by simp, by simp⟩ h
    | 1, h => exact absurd ⟨by omega, by simp, by simp⟩ h
    | 2, h => exact (if_neg nofun).trans (if_neg fun hok => h ⟨by omega, fun _ => hok, by simp⟩)
    | 3, h => exact (if_neg nofun).trans (if_neg fun hok => h ⟨by omega, fun _ => hok, by simp⟩)
    | 4, h => exact (if_neg nofun).trans (if_neg fun hok => h ⟨by omega, by simp, fun _ => hok⟩)
    | 5, h => exact (if_neg nofun).trans (if_neg fun hok => h ⟨by omega, by simp, fun _ => hok⟩)
    | _ + 6, _ => rfl
  · rw [dif_neg hq]
    refine if_neg ?_
    rintro rfl
    exact h ⟨by omega, by simp, by simp⟩

end

theorem writeMeasure_of_number (h : 16 ≤ field e.args 0 1) : writeMeasure e s = (s, .refuse .badArg) :=
  dif_neg (not_lt.mpr h)

theorem writeMeasure_of_none (h : measureEntry? e.args s.cmu.config.alignDelay = none) :
    writeMeasure e s = (s, .refuse .badArg) := by
  unfold writeMeasure
  rw [h]
  split <;> rfl

theorem writeMeasure_of_entry {x : MeasureEntry} {m : Nat} (hx : measureEntry? e.args s.cmu.config.alignDelay = some x)
    (hm : field e.args 0 1 = m) (h : m < 16) :
    writeMeasure e s = (s.withMse { s.mse with
      measures := s.mse.measures.set m x h
      baselines := s.mse.baselines.set m none h }, .done []) := by
  subst hm
  refine (dif_pos h).trans ?_
  rw [hx]

theorem readMeasure_of_number (h : 16 ≤ field e.args 0 1) : readMeasure e s = (s, .refuse .badArg) :=
  dif_neg (not_lt.mpr h)

theorem readMeasure_of_measure {m : Nat} (hm : field e.args 0 1 = m) (h : m < 16) :
    readMeasure e s = (s, .done ((s.mse.measures[m]).octets ++ s.mse.baselineOctets ⟨m, h⟩)) := by
  subst hm
  exact dif_pos h

/-- R118: a baseline after its presence octet. -/
def baselineReport : Option Int → List Octet
  | none => [0, 0, 0, 0, 0]
  | some b => (1 : Octet) :: octetsOf 4 b

theorem baselineOctets_of_deviation {x : Mse} {m : Fin 16} {g : Nat} (h : (x.measures[m]).haltGroup? = some g) :
    x.baselineOctets m = baselineReport (x.baselines[m]) := by
  rw [Mse.baselineOctets, h]
  dsimp only
  cases x.baselines[m] <;> rfl

theorem baselineOctets_of_none {x : Mse} {m : Fin 16} (h : (x.measures[m]).haltGroup? = none) : x.baselineOctets m = [] := by
  rw [Mse.baselineOctets, h]

theorem octetsOf_one_natCast (n : Nat) : octetsOf 1 (n : Int) = [BitVec.ofNat 8 n] := by
  simp [octetsOf]

/-- R118: what READ MEASURE reports of an entry and of the baseline it may have. -/
def measureReport (x : MeasureEntry) (baseline : Option Int) : List Octet :=
  match x with
  | .disabled => [0, 0, 0, 0, 0]
  | .direct p => [1, BitVec.ofNat 8 p.val, 0, 0, 0]
  | .chord p l => [2, BitVec.ofNat 8 p.val, BitVec.ofNat 8 l, 0, 0]
  | .twist p l => [3, BitVec.ofNat 8 p.val, BitVec.ofNat 8 l, 0, 0]
  | .deviation p beta g => [4, BitVec.ofNat 8 p.val, 0, BitVec.ofNat 8 beta, BitVec.ofNat 8 g] ++ baselineReport baseline
  | .cantDeviation p beta g => [5, BitVec.ofNat 8 p.val, 0, BitVec.ofNat 8 beta, BitVec.ofNat 8 g] ++ baselineReport baseline

theorem measureResults_eq (x : Mse) (m : Fin 16) :
    (x.measures[m]).octets ++ x.baselineOctets m = measureReport (x.measures[m]) (x.baselines[m]) := by
  cases hkind : x.measures[m] with
  | disabled => rw [baselineOctets_of_none (congrArg MeasureEntry.haltGroup? hkind)]; rfl
  | direct p | chord p l | twist p l =>
    rw [baselineOctets_of_none (congrArg MeasureEntry.haltGroup? hkind)]
    simp only [MeasureEntry.octets, octetsOf_one_natCast]
    rfl
  | deviation p beta g | cantDeviation p beta g =>
    rw [baselineOctets_of_deviation (congrArg MeasureEntry.haltGroup? hkind)]
    simp only [MeasureEntry.octets, octetsOf_one_natCast]
    rfl

/-- R127: REBASE unseeds the measures it names and answers their mask. -/
theorem rebase_of_mask {mask : Half} (h : BitVec.ofNat 16 (field e.args 0 2) = mask) :
    rebase e s = (s.withMse { s.mse with
      baselines := Vector.ofFn fun m : Fin 16 =>
        if (measureMask (s.mse.rebased mask)).getLsbD m.val then none else s.mse.baselines[m] },
      .done (octetsOf 2 (measureMask (s.mse.rebased mask)).toNat)) := by
  subst h
  simp only [getLsbD_measureMask]
  rfl

end

end Sys2Proof.Machine

/-! The statement about the measure table. -/

namespace Sys2Proof.Proofs

open Sys2Proof Sys2Proof.Machine

/-- Settles O38: an entry is written when its kind's fields are allowed, and a deviation measure alone shows a baseline. -/
theorem measureEntriesAreWrittenReadAndRebased : Obligations.MeasureEntriesAreWrittenReadAndRebased := by
  unfold Obligations.MeasureEntriesAreWrittenReadAndRebased
  refine ⟨fun s source tag rest m kind p l beta group hm hk hp hl hb hg h hstop => ?_,
    fun s source tag rest m hm h => ?_, fun s source tag mask rest h => ?_⟩
  · intro inRange
    change s.CanTake (commandEntry source false 0x40 tag (measureArguments m kind p l beta group)) rest at h
    have hargs := commandEntry_args source false 0x40 tag (measureArguments m kind p l beta group)
    obtain ⟨hnumber, hkind, hparam, hlen, hbeta, hgroup⟩ := field_measureArguments hm hk hp hl hb hg
    rw [← hargs] at hnumber hkind hparam hlen hbeta hgroup
    refine ⟨fun hbad => ?_, fun h16 hr => ?_⟩
    · refine h.exec_addressed (row := .writeMeasure) rfl nofun rfl rfl hstop (r := .refuse .badArg) ?_
      by_cases h16 : m < 16
      · refine writeMeasure_of_none ?_
        by_cases hallowed : KindAllowed kind l beta group s.cmu.config.alignDelay
        · have hparameter : ¬(kind ≠ 0 → p < 10) := fun hq => hbad ⟨h16, hallowed.1, hq, hallowed.2⟩
          obtain ⟨hnonzero, hbig⟩ := Classical.not_imp.mp hparameter
          exact measureEntry?_of_parameter (by rwa [hkind]) ((not_lt.mp hbig).trans_eq hparam.symm)
        · exact measureEntry?_of_refused hkind hlen hbeta hgroup hallowed
      · exact writeMeasure_of_number (by omega)
    · obtain ⟨-, hcode, hq, hfields⟩ := hr
      by_cases hzero : kind = 0
      · subst hzero
        refine ⟨0, nofun, ?_⟩
        exact h.exec_addressed (row := .writeMeasure) rfl nofun rfl rfl hstop
          (writeMeasure_of_entry (s := s.taken rest) (measureEntry?_of_disabled hkind) hnumber h16)
      · refine ⟨⟨p, hq hzero⟩, fun _ => rfl, ?_⟩
        exact h.exec_addressed (row := .writeMeasure) rfl nofun rfl rfl hstop
          (writeMeasure_of_entry (s := s.taken rest)
            (measureEntry?_of_allowed hkind hparam hlen hbeta hgroup (hq hzero) ⟨hcode, hfields⟩) hnumber h16)
  · have hnumber : field (commandEntry source false 0x41 tag (octetsOf 1 m)).args 0 1 = m :=
      (commandEntry_args ..).symm ▸ field_octetsOf_last 1 m hm
    refine ⟨fun h16 => ?_, fun h16 => ?_⟩
    · exact h.exec_addressed (row := .readMeasure) rfl nofun rfl rfl trivial (r := .refuse .badArg)
        (readMeasure_of_number (h16.trans_eq hnumber.symm))
    · intro baseline report
      have hread := h.exec_addressed (row := .readMeasure) rfl nofun rfl rfl trivial
        (readMeasure_of_measure (s := s.taken rest) hnumber h16)
      have hreport : (s.mse.measures[m]).octets ++ s.mse.baselineOctets ⟨m, h16⟩ = report :=
        measureResults_eq s.mse ⟨m, h16⟩
      rw [← hreport]
      exact hread
  · have hmask : BitVec.ofNat 16 (field (commandEntry source false 0x42 tag (octetsOf 2 mask.toNat)).args 0 2) = mask := by
      rw [commandEntry_args, field_octetsOf_last 2 _ mask.isLt, BitVec.ofNat_toNat, BitVec.setWidth_eq]
    exact ⟨measureMask (s.mse.rebased mask), fun m => getLsbD_measureMask _ m,
      h.exec_addressed (row := .rebase) rfl nofun rfl rfl trivial (rebase_of_mask (s := s.taken rest) hmask)⟩

end Sys2Proof.Proofs


/-! SUPPORT. The commands over the slot table and the statistics (R176, R180, R181), and the end of a transmission (R166, R187). -/

namespace Sys2Proof.Machine

section

variable {s : State} {e : CommandEntry}

/-! ### The slot table (R176) -/

/-- R176: the arguments of WRITE SLOT. -/
def slotArguments (i enabled src function threshold invert exclude : Nat) : List Octet :=
  octetsOf 1 i ++ (octetsOf 1 enabled ++ (octetsOf 1 src ++ (octetsOf 1 function ++ (octetsOf 4 threshold ++
    (octetsOf 1 invert ++ octetsOf 1 exclude)))))

section

variable {i enabled src function threshold invert exclude : Nat}

theorem slotArguments_length : (slotArguments i enabled src function threshold invert exclude).length = 10 := by
  simp [slotArguments]

theorem field_slotArguments (hi : i < 256) (he : enabled < 256) (hs : src < 256) (hf : function < 256)
    (ht : threshold < 4294967296) (hv : invert < 256) (hx : exclude < 256) :
    field (slotArguments i enabled src function threshold invert exclude) 0 1 = i ∧
      field (slotArguments i enabled src function threshold invert exclude) 1 1 = enabled ∧
      field (slotArguments i enabled src function threshold invert exclude) 2 1 = src ∧
      field (slotArguments i enabled src function threshold invert exclude) 3 1 = function ∧
      field (slotArguments i enabled src function threshold invert exclude) 4 4 = threshold ∧
      field (slotArguments i enabled src function threshold invert exclude) 8 1 = invert ∧
      field (slotArguments i enabled src function threshold invert exclude) 9 1 = exclude := by
  simp [slotArguments, field_append_right, field_octetsOf, field_octetsOf_last, hi, he, hs, hf, ht, hv, hx]

end

/-- R196: the source a code below 18 names. -/
def sourceOf (src : Nat) : SlotSource := if h : src < 16 then .measure ⟨src, h⟩ else if src = 16 then .openCount else .speed

theorem slotSource?_of_lt {src : Nat} (h : src < 18) : slotSource? src = some (sourceOf src) := by
  unfold slotSource? sourceOf
  split
  · rfl
  · split
    · rfl
    · exact if_pos (by omega)

theorem slotSource?_of_le {src : Nat} (h : 18 ≤ src) : slotSource? src = none := by
  rw [slotSource?, dif_neg (by omega), if_neg (by omega), if_neg (by omega)]

theorem sourceOf_measure (m : Fin 16) : sourceOf m.val = .measure m := dif_pos m.isLt

/-- R196: the function a code below 5 names. -/
def functionOf (function : Nat) : SlotFunction :=
  match function with
  | 0 => .sigma
  | 1 => .above
  | 2 => .starts
  | 3 => .peak
  | _ => .sum

theorem slotFunction?_of_lt {function : Nat} (h : function < 5) : slotFunction? function = some (functionOf function) := by
  match function, h with
  | 0, _ | 1, _ | 2, _ | 3, _ | 4, _ => rfl

theorem slotFunction?_of_le {function : Nat} (h : 5 ≤ function) : slotFunction? function = none := by
  match function, h with
  | _ + 5, _ => rfl

/-- R176: the ranges of WRITE SLOT, but for the slot's number. -/
def SlotAllowed (enabled src function threshold invert exclude : Nat) : Prop :=
  enabled < 2 ∧ src < 18 ∧ function < 5 ∧ threshold ≤ 1000000 ∧ invert < 2 ∧ exclude < 2

section

variable {a : List Octet} {enabled src function threshold invert exclude : Nat}

theorem slotEntry?_of_allowed (he : field a 1 1 = enabled) (hs : field a 2 1 = src) (hf : field a 3 1 = function)
    (ht : field a 4 4 = threshold) (hv : field a 8 1 = invert) (hx : field a 9 1 = exclude)
    (h : SlotAllowed enabled src function threshold invert exclude) : slotEntry? a = some
      { enabled := decide (enabled = 1), source := sourceOf src, function := functionOf function, threshold := threshold
        invert := decide (invert = 1), excludeLowSpeed := decide (exclude = 1) } := by
  obtain ⟨he2, hs18, hf5, hlimit, hv2, hx2⟩ := h
  rw [slotEntry?, he, hs, hf, ht, hv, hx, yesNo?_of_lt he2, slotSource?_of_lt hs18, slotFunction?_of_lt hf5,
    yesNo?_of_lt hv2, yesNo?_of_lt hx2]
  exact if_pos hlimit

/-- R176: one code that names nothing leaves no entry, whatever the others say. -/
theorem slotEntry?_of_refused (he : field a 1 1 = enabled) (hs : field a 2 1 = src) (hf : field a 3 1 = function)
    (ht : field a 4 4 = threshold) (hv : field a 8 1 = invert) (hx : field a 9 1 = exclude)
    (h : ¬SlotAllowed enabled src function threshold invert exclude) : slotEntry? a = none := by
  unfold slotEntry?
  split
  · next henabled hsource hfunction hinvert hexclude =>
    refine if_neg fun hlimit => h ?_
    rw [he] at henabled
    rw [hs] at hsource
    rw [hf] at hfunction
    rw [hv] at hinvert
    rw [hx] at hexclude
    rw [ht] at hlimit
    refine ⟨?_, ?_, ?_, hlimit, ?_, ?_⟩ <;> by_contra hle
    · rw [yesNo?_of_le (not_lt.mp hle)] at henabled
      exact absurd henabled nofun
    · rw [slotSource?_of_le (not_lt.mp hle)] at hsource
      exact absurd hsource nofun
    · rw [slotFunction?_of_le (not_lt.mp hle)] at hfunction
      exact absurd hfunction nofun
    · rw [yesNo?_of_le (not_lt.mp hle)] at hinvert
      exact absurd hinvert nofun
    · rw [yesNo?_of_le (not_lt.mp hle)] at hexclude
      exact absurd hexclude nofun
  · rfl

end

theorem writeSlot_of_number (h : 8 ≤ field e.args 0 1) : writeSlot e s = (s, .refuse .badArg) := dif_neg (not_lt.mpr h)

theorem writeSlot_of_none (h : slotEntry? e.args = none) : writeSlot e s = (s, .refuse .badArg) := by
  unfold writeSlot
  rw [h]
  split <;> rfl

theorem writeSlot_of_entry {x : SlotEntry} {i : Nat} (hx : slotEntry? e.args = some x) (hi : field e.args 0 1 = i)
    (h : i < 8) : writeSlot e s = (s.withStu (s.stu.setSlot ⟨i, h⟩ x), .done []) := by
  subst hi
  refine (dif_pos h).trans ?_
  rw [hx]

theorem readSlot_of_number (h : 8 ≤ field e.args 0 1) : readSlot e s = (s, .refuse .badArg) := dif_neg (not_lt.mpr h)

theorem readSlot_of_slot {i : Nat} (hi : field e.args 0 1 = i) (h : i < 8) :
    readSlot e s = (s, .done (s.stu.slotResults ⟨i, h⟩)) := by
  subst hi
  exact dif_pos h

/-- R182: the code of a slot's status. -/
theorem status_octet_eq (a : Accumulators) : a.status.octet = if a.n = 0 then 1 else if a.sat = true then 2 else 0 := by
  unfold Accumulators.status
  split
  · rfl
  · split <;> rfl

theorem freeze_eq (x : Stu) : x.freeze = { x with
    frozen := true
    segment := if x.frozen then x.segment else x.segment.map fun g : Segment => { g with frozen := true } } := by
  unfold Stu.freeze
  cases hf : x.frozen
  · rfl
  · exact congrArg (fun frozen : Bool => { x with frozen := frozen }) hf

/-! ### The end of a transmission (R36, R166, R187) -/

theorem resets_of_other {r : Response} (h : r.status ≠ .ok ∨ (r.code ≠ 0x03 ∧ r.code ≠ 0x04)) : r.resets = none := by
  rcases h with hstatus | ⟨hwarm, hcold⟩
  · rw [Response.resets, if_neg (mt And.left hstatus), if_neg (mt And.left hstatus)]
  · rw [Response.resets, if_neg (mt And.right hwarm), if_neg (mt And.right hcold)]

theorem transmissionEnd_of_none (h : s.ltx.lane = .idle ∨ s.ltx.lane = .cutThrough) : s.transmissionEnd = s := by
  unfold State.transmissionEnd
  rcases h with h | h <;> rw [h]

theorem transmissionEnd_of_own {f : OwnFrame} (h : s.ltx.lane = .own f) :
    s.transmissionEnd = s.endFrameOnLane.completeOwn f := by
  rw [State.transmissionEnd, h]

theorem completeOwn_of_plain {f : OwnFrame} (h : f = .alert ∨ f = .location ∨ f = .segment ∨
    ∃ r, f = .response r ∧ (r.status ≠ .ok ∨ (r.code ≠ 0x03 ∧ r.code ≠ 0x04))) : s.completeOwn f = s := by
  rcases h with rfl | rfl | rfl | ⟨r, rfl, hr⟩
  · rfl
  · rfl
  · rfl
  · simp only [State.completeOwn, resets_of_other hr]

end

end Sys2Proof.Machine

/-! The statements about the slots and the end of a transmission. -/

namespace Sys2Proof.Proofs

open Sys2Proof Sys2Proof.Machine

/-- Settles O45: the fields of WRITE SLOT as they were written, and the results of the others field by field. -/
theorem slotsAreWrittenReadFrozenAndCleared : Obligations.SlotsAreWrittenReadFrozenAndCleared := by
  unfold Obligations.SlotsAreWrittenReadFrozenAndCleared
  refine ⟨fun s source tag rest i enabled src function threshold invert exclude hi he hs hf ht hv hx h hstop => ?_,
    fun s source tag rest i hi h => ?_, fun s source broadcast tag rest => ⟨fun h => ?_, fun h => ?_, fun h => ?_⟩⟩
  · intro inRange
    change s.CanTake (commandEntry source false 0x60 tag
      (slotArguments i enabled src function threshold invert exclude)) rest at h
    have hargs := commandEntry_args source false 0x60 tag (slotArguments i enabled src function threshold invert exclude)
    obtain ⟨hnumber, henabled, hsource, hfunction, hthreshold, hinvert, hexclude⟩ :=
      field_slotArguments hi he hs hf ht hv hx
    rw [← hargs] at hnumber henabled hsource hfunction hthreshold hinvert hexclude
    refine ⟨fun hbad => ?_, fun h8 hr => ?_⟩
    · refine h.exec_addressed (row := .writeSlot) rfl nofun rfl slotArguments_length hstop (r := .refuse .badArg) ?_
      by_cases h8 : i < 8
      · exact writeSlot_of_none (slotEntry?_of_refused henabled hsource hfunction hthreshold hinvert hexclude
          fun hallowed => hbad ⟨h8, hallowed⟩)
      · exact writeSlot_of_number (by omega)
    · have hentry := slotEntry?_of_allowed henabled hsource hfunction hthreshold hinvert hexclude hr.2
      refine ⟨_, rfl, rfl, rfl, rfl, rfl, ?_, ?_, ?_, h.exec_addressed (row := .writeSlot) rfl nofun rfl
        slotArguments_length hstop (writeSlot_of_entry (s := s.taken rest) hentry hnumber h8)⟩
      · rintro rfl
        rfl
      · rintro rfl
        rfl
      · rintro m rfl
        exact sourceOf_measure m
  · have hnumber : field (commandEntry source false 0x61 tag (octetsOf 1 i)).args 0 1 = i :=
      (commandEntry_args ..).symm ▸ field_octetsOf_last 1 i hi
    refine ⟨fun h8 => ?_, fun h8 => ?_⟩
    · exact h.exec_addressed (row := .readSlot) rfl nofun rfl rfl trivial (r := .refuse .badArg)
        (readSlot_of_number (h8.trans_eq hnumber.symm))
    · intro x a p
      have hread := h.exec_addressed (row := .readSlot) rfl nofun rfl rfl trivial
        (readSlot_of_slot (s := s.taken rest) hnumber h8)
      rw [← status_octet_eq]
      exact hread
  · rw [← freeze_eq]
    exact h.exec_done (row := .freeze) rfl nofun rfl rfl trivial rfl
  · exact h.exec_done (row := .thaw) rfl nofun rfl rfl trivial rfl
  · exact h.exec_addressed (row := .resetStats) rfl nofun rfl rfl trivial (r := .done []) rfl

/-- Settles O50: END, and what the completion of each kind of frame frees. -/
theorem transmissionEndCompletesTheFrame : Obligations.TransmissionEndCompletesTheFrame := by
  unfold Obligations.TransmissionEndCompletesTheFrame
  refine fun s => ⟨fun h => congrArg Host.Outcome.next (transmissionEnd_of_none h), fun h => ?_, fun f h => ?_⟩
  · refine congrArg Host.Outcome.next ?_
    rw [State.transmissionEnd, h]
    rfl
  · have hend := transmissionEnd_of_own h
    refine ⟨fun hf => congrArg Host.Outcome.next (hend.trans (completeOwn_of_plain hf)), fun k hk => ?_, fun i hi => ?_⟩
    · subst hk
      exact congrArg Host.Outcome.next hend
    · subst hi
      exact congrArg Host.Outcome.next hend

end Sys2Proof.Proofs
